-- ==== Sys2Proof/Word.lean ====
section
/-! DEFINITION. The value domains of 00_scope.md R12: signal levels, words, control words and the trigger modes. A `Sel`
(every selector, line index and global address) and a `CoreId` are unsigned integers the rules add and compare, and are
written as `Nat` throughout. The ranges of R12, `[0, 2^WORD_BITS)`, `[0, 2^ADDR_BITS)` and `[0, core_count)`, depend on the
construction parameters R7, R8 and R10, so they are checked in WellFormed.lean and kept by the step as an invariant
(Safety.lean, log entry 3). R13: a `Word` is only copied, zeroed and compared, so no arithmetic is defined on it. -/

namespace Sys2Proof

/-- R12: a boolean signal level; `false` is low and deasserted, `true` is high and asserted. -/
abbrev Bit := Bool

/-- R12: an unsigned integer below `2^WORD_BITS`, the unit of storage and transfer. -/
abbrev Word := Nat

/-- R12: the value lies in the range of a type of that many bits. -/
abbrev fits (bits value : Nat) : Prop := value < 2 ^ bits

/-- R12, R90: the packed control word of a memory block (bit 0 chip-select, bit 1 write-enable, bit 2 clock). -/
abbrev ControlWord := BitVec 3

/-- R9, R92: which genuine clock changes of a bistable trigger its action. -/
inductive TriggerMode where
  | risingEdge
  | fallingEdge
  | bothEdges
deriving DecidableEq, Repr, Inhabited

end Sys2Proof
end

