-- ==== Sys2Proof/Config.lean ====
section
/-! DEFINITION. The construction parameters (00_scope.md R7 to R11): what the caller fixes before the first operation and
no operation changes. They are arguments of the model: `Machine.State.construct` builds the state after construction for
every `Config`, and every statement over all states is a statement over all parameter values. -/

namespace Sys2Proof

/-- R96: the ten component kinds. A program runs against one fixture, an instance of one of them (R97). -/
inductive Kind where
  | srl | dff | srff | tff | mux | dmx | cell | blk | drv | ctl
deriving DecidableEq, Repr, Inhabited

/-- R7, R8: the two open width parameters. -/
structure Widths where
  wordBits : Nat
  addrBits : Nat
deriving DecidableEq, Repr, Inhabited

/-- R7 to R10: everything a construction fixes. One component of each kind is constructed (log entry 1); `fixture` says
which of them the program runs against. DESIGN CHOICE (log entry 23): `blkBase`, the base of the block used on its own, may be
any address. DESIGN CHOICE (log entry 24): that block and the routers may have more lines than addresses. -/
structure Config where
  fixture : Kind
  widths : Widths
  dffMode : TriggerMode
  srffMode : TriggerMode
  tffMode : TriggerMode
  muxInputs : Nat
  dmxOutputs : Nat
  blkBase : Nat
  blkLines : Nat
  drvBlocks : List Nat
  coreCount : Nat
  ctlBlocks : List Nat
deriving DecidableEq, Repr, Inhabited

/-- R11: a router is narrow below this many lines; the literal is the source's, unaudited, and no rule reads the result. -/
def Config.narrowLimit : Nat := 8

/-- R10: `TOTAL_LINES`, the sum of the block sizes of a driver. -/
def totalLines (sizes : List Nat) : Nat := sizes.sum

/-- DESIGN CHOICE (log entry 2): the parameters `State.reset` is constructed with. The spec leaves all of them open; the
widths are the largest for which the packed record form of R94 exists, the topologies are those of its own examples. -/
def Config.reference : Config where
  fixture := .ctl
  widths := { wordBits := 32, addrBits := 32 }
  dffMode := .risingEdge
  srffMode := .risingEdge
  tffMode := .risingEdge
  muxInputs := 4
  dmxOutputs := 4
  blkBase := 0
  blkLines := 8
  drvBlocks := [3, 5, 2]
  coreCount := 4
  ctlBlocks := [8]

end Sys2Proof
end

