-- ==== Sys2Proof/Syntax.lean ====
section
/-! DEFINITION. The operations (30_encoding.md R96): one constructor for each of the 49 rows of spec/opcode_table.json.
Operands are the typed values of R93: a `Word`, a `Sel`, a `Bit`, an index (a `Sel`) or a `CoreId`. Their ranges depend on
the construction parameters and are checked in WellFormed.lean. -/

namespace Sys2Proof

/-- R4, R96: an operation is one event on one signal of one component: a setter, a strobe, a read or a query. -/
inductive Instr where
  -- `SetResetLatch` (40_bistables.md R113 to R116)
  /-- R113: `SRL.set` -/
  | srlSet (w : Word)
  /-- R114: `SRL.reset` -/
  | srlReset
  /-- R116: `SRL.read` -/
  | srlRead
  -- `ClockedSetResetLatch`, the D flip-flop (40_bistables.md R117 to R120)
  /-- R117: `DFF.set_data` -/
  | dffSetData (w : Word)
  /-- R118: `DFF.set_clock` -/
  | dffSetClock (level : Bit)
  /-- R119: `DFF.reset` -/
  | dffReset
  /-- R120: `DFF.read` -/
  | dffRead
  -- SR flip-flop (40_bistables.md R121 to R125)
  /-- R121: `SRFF.set_set_queue` -/
  | srffSetSetQueue (level : Bit)
  /-- R122: `SRFF.set_reset_queue` -/
  | srffSetResetQueue (level : Bit)
  /-- R123: `SRFF.set_clock` -/
  | srffSetClock (level : Bit)
  /-- R125: `SRFF.read` -/
  | srffRead
  -- T flip-flop (40_bistables.md R126 to R129)
  /-- R126: `TFF.set_input_queue` -/
  | tffSetInputQueue (level : Bit)
  /-- R127: `TFF.set_clock` -/
  | tffSetClock (level : Bit)
  /-- R129: `TFF.read` -/
  | tffRead
  -- `Multiplexer` (41_routers.md R140 to R144)
  /-- R140: `MUX.set_input_word` -/
  | muxSetInputWord (i : Nat) (w : Word)
  /-- R141: `MUX.set_selector` -/
  | muxSetSelector (a : Nat)
  /-- R142: `MUX.set_chip_select` -/
  | muxSetChipSelect (level : Bit)
  /-- R143: `MUX.is_narrow` -/
  | muxIsNarrow
  /-- R144: `MUX.read` -/
  | muxRead
  -- `Demultiplexer` (41_routers.md R145 to R149)
  /-- R145: `DMX.set_input_word` -/
  | dmxSetInputWord (w : Word)
  /-- R146: `DMX.set_chip_select` -/
  | dmxSetChipSelect (level : Bit)
  /-- R147: `DMX.set_selector` -/
  | dmxSetSelector (a : Nat)
  /-- R148: `DMX.is_narrow` -/
  | dmxIsNarrow
  /-- R149: `DMX.read` -/
  | dmxRead (i : Nat)
  -- register cell (42_register_cell.md R160 to R166)
  /-- R160: `CELL.set_input` -/
  | cellSetInput (w : Word)
  /-- R161: `CELL.set_chip_select` -/
  | cellSetChipSelect (level : Bit)
  /-- R162: `CELL.set_write_enable` -/
  | cellSetWriteEnable (level : Bit)
  /-- R163: `CELL.set_clock` -/
  | cellSetClock (level : Bit)
  /-- R166: `CELL.read` -/
  | cellRead
  -- memory block (43_memory_block.md R174 to R179)
  /-- R174: `BLK.set_chip_select` -/
  | blkSetChipSelect (level : Bit)
  /-- R175: `BLK.set_write_enable` -/
  | blkSetWriteEnable (level : Bit)
  /-- R176: `BLK.set_clock` -/
  | blkSetClock (level : Bit)
  /-- R177: `BLK.set_address` -/
  | blkSetAddress (a : Nat)
  /-- R178: `BLK.set_feed` -/
  | blkSetFeed (w : Word)
  /-- R179: `BLK.read_word` -/
  | blkReadWord
  -- driver (44_memory_driver.md R192 to R199)
  /-- R192: `DRV.set_chip_select` -/
  | drvSetChipSelect (level : Bit)
  /-- R193: `DRV.set_write_enable` -/
  | drvSetWriteEnable (level : Bit)
  /-- R194: `DRV.set_address` -/
  | drvSetAddress (a : Nat)
  /-- R195: `DRV.set_clock` -/
  | drvSetClock (level : Bit)
  /-- R196: `DRV.read_word` -/
  | drvReadWord
  /-- R197: `DRV.determine_block_index` -/
  | drvDetermineBlockIndex (a : Nat)
  /-- R198: `DRV.set_feed` -/
  | drvSetFeed (w : Word)
  /-- R199: `DRV.address_width` -/
  | drvAddressWidth
  -- memory controller (45_memory_controller.md R210 to R215)
  /-- R210: `CTL.set_chip_select` -/
  | ctlSetChipSelect (c : Nat) (level : Bit)
  /-- R211: `CTL.set_write_enable` -/
  | ctlSetWriteEnable (c : Nat) (level : Bit)
  /-- R212: `CTL.set_address` -/
  | ctlSetAddress (c : Nat) (a : Nat)
  /-- R213: `CTL.set_feed` -/
  | ctlSetFeed (c : Nat) (w : Word)
  /-- R214: `CTL.set_clock` -/
  | ctlSetClock (level : Bit)
  /-- R215: `CTL.read_response` -/
  | ctlReadResponse (c : Nat)
deriving DecidableEq, Repr

/-- R96: the component kind an operation belongs to. -/
def Instr.kind : Instr → Kind
  | .srlSet _ => .srl
  | .srlReset => .srl
  | .srlRead => .srl
  | .dffSetData _ => .dff
  | .dffSetClock _ => .dff
  | .dffReset => .dff
  | .dffRead => .dff
  | .srffSetSetQueue _ => .srff
  | .srffSetResetQueue _ => .srff
  | .srffSetClock _ => .srff
  | .srffRead => .srff
  | .tffSetInputQueue _ => .tff
  | .tffSetClock _ => .tff
  | .tffRead => .tff
  | .muxSetInputWord _ _ => .mux
  | .muxSetSelector _ => .mux
  | .muxSetChipSelect _ => .mux
  | .muxIsNarrow => .mux
  | .muxRead => .mux
  | .dmxSetInputWord _ => .dmx
  | .dmxSetChipSelect _ => .dmx
  | .dmxSetSelector _ => .dmx
  | .dmxIsNarrow => .dmx
  | .dmxRead _ => .dmx
  | .cellSetInput _ => .cell
  | .cellSetChipSelect _ => .cell
  | .cellSetWriteEnable _ => .cell
  | .cellSetClock _ => .cell
  | .cellRead => .cell
  | .blkSetChipSelect _ => .blk
  | .blkSetWriteEnable _ => .blk
  | .blkSetClock _ => .blk
  | .blkSetAddress _ => .blk
  | .blkSetFeed _ => .blk
  | .blkReadWord => .blk
  | .drvSetChipSelect _ => .drv
  | .drvSetWriteEnable _ => .drv
  | .drvSetAddress _ => .drv
  | .drvSetClock _ => .drv
  | .drvReadWord => .drv
  | .drvDetermineBlockIndex _ => .drv
  | .drvSetFeed _ => .drv
  | .drvAddressWidth => .drv
  | .ctlSetChipSelect _ _ => .ctl
  | .ctlSetWriteEnable _ _ => .ctl
  | .ctlSetAddress _ _ => .ctl
  | .ctlSetFeed _ _ => .ctl
  | .ctlSetClock _ => .ctl
  | .ctlReadResponse _ => .ctl

/-- R96: the operation's name as the opcode map writes it. -/
def Instr.mnemonic : Instr → String
  | .srlSet _ => "SRL.set"
  | .srlReset => "SRL.reset"
  | .srlRead => "SRL.read"
  | .dffSetData _ => "DFF.set_data"
  | .dffSetClock _ => "DFF.set_clock"
  | .dffReset => "DFF.reset"
  | .dffRead => "DFF.read"
  | .srffSetSetQueue _ => "SRFF.set_set_queue"
  | .srffSetResetQueue _ => "SRFF.set_reset_queue"
  | .srffSetClock _ => "SRFF.set_clock"
  | .srffRead => "SRFF.read"
  | .tffSetInputQueue _ => "TFF.set_input_queue"
  | .tffSetClock _ => "TFF.set_clock"
  | .tffRead => "TFF.read"
  | .muxSetInputWord _ _ => "MUX.set_input_word"
  | .muxSetSelector _ => "MUX.set_selector"
  | .muxSetChipSelect _ => "MUX.set_chip_select"
  | .muxIsNarrow => "MUX.is_narrow"
  | .muxRead => "MUX.read"
  | .dmxSetInputWord _ => "DMX.set_input_word"
  | .dmxSetChipSelect _ => "DMX.set_chip_select"
  | .dmxSetSelector _ => "DMX.set_selector"
  | .dmxIsNarrow => "DMX.is_narrow"
  | .dmxRead _ => "DMX.read"
  | .cellSetInput _ => "CELL.set_input"
  | .cellSetChipSelect _ => "CELL.set_chip_select"
  | .cellSetWriteEnable _ => "CELL.set_write_enable"
  | .cellSetClock _ => "CELL.set_clock"
  | .cellRead => "CELL.read"
  | .blkSetChipSelect _ => "BLK.set_chip_select"
  | .blkSetWriteEnable _ => "BLK.set_write_enable"
  | .blkSetClock _ => "BLK.set_clock"
  | .blkSetAddress _ => "BLK.set_address"
  | .blkSetFeed _ => "BLK.set_feed"
  | .blkReadWord => "BLK.read_word"
  | .drvSetChipSelect _ => "DRV.set_chip_select"
  | .drvSetWriteEnable _ => "DRV.set_write_enable"
  | .drvSetAddress _ => "DRV.set_address"
  | .drvSetClock _ => "DRV.set_clock"
  | .drvReadWord => "DRV.read_word"
  | .drvDetermineBlockIndex _ => "DRV.determine_block_index"
  | .drvSetFeed _ => "DRV.set_feed"
  | .drvAddressWidth => "DRV.address_width"
  | .ctlSetChipSelect _ _ => "CTL.set_chip_select"
  | .ctlSetWriteEnable _ _ => "CTL.set_write_enable"
  | .ctlSetAddress _ _ => "CTL.set_address"
  | .ctlSetFeed _ _ => "CTL.set_feed"
  | .ctlSetClock _ => "CTL.set_clock"
  | .ctlReadResponse _ => "CTL.read_response"

end Sys2Proof
end

