-- ==== Sys2Proof/WellFormed.lean ====
section
/-! DEFINITION. The parameter-dependent checks: an operation whose operand is outside its type, or whose kind is not the
fixture's, is refused before it reaches the hardware (R95, R97, R98, R222, R238), and so is a construction outside R10
(R238, 93_implementation_defined.md U11). Neither is a fault nor a transition. -/

namespace Sys2Proof

/-- Why a decoded record is not an operation of this fixture (R95, R97, R98). -/
inductive OperandError where
  /-- R97, R98: the record's kind differs from the fixture's. -/
  | wrongKind (k : Kind)
  /-- R95: a `Word` operand at or above `2^WORD_BITS`. -/
  | wordTooWide (w : Word)
  /-- R95: a `Sel` operand at or above `2^ADDR_BITS`. -/
  | selTooWide (a : Nat)
  /-- R95: an index operand (a `Sel` in the first operand's place) at or above `2^min(ADDR_BITS, 24)`. -/
  | indexTooWide (i : Nat)
  /-- R98, R222: a core id not below `core_count`. -/
  | coreIdOutOfRange (c : Nat)
deriving DecidableEq, Repr

/-- R95: the operand fits its type, or the error that names it. -/
def requireBelow (x bound : Nat) (e : OperandError) : Except OperandError Unit :=
  if x < bound then .ok () else .error e

/-- R95: a `Word` operand fits `WORD_BITS`. -/
def checkWord (p : Widths) (w : Word) : Except OperandError Unit :=
  requireBelow w (2 ^ p.wordBits) (.wordTooWide w)

/-- R95: a `Sel` operand fits `ADDR_BITS`. -/
def checkSel (p : Widths) (a : Nat) : Except OperandError Unit :=
  requireBelow a (2 ^ p.addrBits) (.selTooWide a)

/-- R95: an index operand, a `Sel` in the first place, fits `min(ADDR_BITS, 24)` bits, in a tuple as in a packed record
(log entry 14). -/
def checkIndex (p : Widths) (i : Nat) : Except OperandError Unit :=
  requireBelow i (2 ^ min p.addrBits 24) (.indexTooWide i)

/-- R98, R222: a core id is below `core_count`. -/
def checkCore (coreCount : Nat) (c : Nat) : Except OperandError Unit :=
  requireBelow c coreCount (.coreIdOutOfRange c)

/-- R95: the operands of an operation lie in their types. A `Bit` operand is a `Bit` by its type. -/
def checkOperands (p : Widths) (coreCount : Nat) : Instr → Except OperandError Unit
  | .srlSet w => checkWord p w
  | .srlReset => .ok ()
  | .srlRead => .ok ()
  | .dffSetData w => checkWord p w
  | .dffSetClock _ => .ok ()
  | .dffReset => .ok ()
  | .dffRead => .ok ()
  | .srffSetSetQueue _ => .ok ()
  | .srffSetResetQueue _ => .ok ()
  | .srffSetClock _ => .ok ()
  | .srffRead => .ok ()
  | .tffSetInputQueue _ => .ok ()
  | .tffSetClock _ => .ok ()
  | .tffRead => .ok ()
  | .muxSetInputWord i w => checkIndex p i >>= fun _ => checkWord p w
  | .muxSetSelector a => checkSel p a
  | .muxSetChipSelect _ => .ok ()
  | .muxIsNarrow => .ok ()
  | .muxRead => .ok ()
  | .dmxSetInputWord w => checkWord p w
  | .dmxSetChipSelect _ => .ok ()
  | .dmxSetSelector a => checkSel p a
  | .dmxIsNarrow => .ok ()
  | .dmxRead i => checkIndex p i
  | .cellSetInput w => checkWord p w
  | .cellSetChipSelect _ => .ok ()
  | .cellSetWriteEnable _ => .ok ()
  | .cellSetClock _ => .ok ()
  | .cellRead => .ok ()
  | .blkSetChipSelect _ => .ok ()
  | .blkSetWriteEnable _ => .ok ()
  | .blkSetClock _ => .ok ()
  | .blkSetAddress a => checkSel p a
  | .blkSetFeed w => checkWord p w
  | .blkReadWord => .ok ()
  | .drvSetChipSelect _ => .ok ()
  | .drvSetWriteEnable _ => .ok ()
  | .drvSetAddress a => checkSel p a
  | .drvSetClock _ => .ok ()
  | .drvReadWord => .ok ()
  | .drvDetermineBlockIndex a => checkSel p a
  | .drvSetFeed w => checkWord p w
  | .drvAddressWidth => .ok ()
  | .ctlSetChipSelect c _ => checkCore coreCount c
  | .ctlSetWriteEnable c _ => checkCore coreCount c
  | .ctlSetAddress c a => checkCore coreCount c >>= fun _ => checkSel p a
  | .ctlSetFeed c w => checkCore coreCount c >>= fun _ => checkWord p w
  | .ctlSetClock _ => .ok ()
  | .ctlReadResponse c => checkCore coreCount c

/-- R97, R98: the operation belongs to the fixture's kind and its operands lie in their types. -/
def checkOperation (p : Widths) (coreCount : Nat) (fixture : Kind) (i : Instr) : Except OperandError Unit :=
  if i.kind = fixture then checkOperands p coreCount i else .error (.wrongKind i.kind)

/-- R98: the operation is one the hardware of these parameters and this fixture is given. -/
def Instr.WellFormed (p : Widths) (coreCount : Nat) (fixture : Kind) (i : Instr) : Bool :=
  match checkOperation p coreCount fixture i with
  | .ok _ => true
  | .error _ => false

/-- Why a set of parameters is not a construction (R10, R238, U11). -/
inductive ConstructionError where
  /-- R7: `WORD_BITS = 0`. -/
  | noWordBits
  /-- R8: `ADDR_BITS = 0`. -/
  | noAddrBits
  /-- R10: a multiplexer with `N = 0`. -/
  | emptyMultiplexer
  /-- R10: a demultiplexer with `N = 0`. -/
  | emptyDemultiplexer
  /-- R10: a memory block with `N = 0`, alone or in a driver. -/
  | emptyBlock
  /-- R10: a driver with an empty block list. -/
  | noBlocks
  /-- R10: `core_count = 0`. -/
  | noCores
  /-- R8: `2^ADDR_BITS < TOTAL_LINES`, a line without an address. -/
  | unaddressableLines
deriving DecidableEq, Repr

/-- R10: one named requirement of a construction. -/
def require (ok : Bool) (e : ConstructionError) : Except ConstructionError Unit :=
  if ok then .ok () else .error e

/-- R8, R10: a driver's block list is non-empty, its blocks have lines, and every line has an address. -/
def checkBlocks (p : Widths) (sizes : List Nat) : Except ConstructionError Unit :=
  require (!sizes.isEmpty) .noBlocks >>= fun _ =>
  require (sizes.all (0 < ·)) .emptyBlock >>= fun _ =>
  require (totalLines sizes ≤ 2 ^ p.addrBits) .unaddressableLines

/-- R7 to R10, R238: the parameters are those of a construction, or the first requirement that fails. DESIGN CHOICE (log
entries 23 and 24): the base of a block used on its own is not tested, nor is its last address or a router's size against
`2^ADDR_BITS`; R8 asks that of a driver's lines only. -/
def checkConfig (c : Config) : Except ConstructionError Unit :=
  require (0 < c.widths.wordBits) .noWordBits >>= fun _ =>
  require (0 < c.widths.addrBits) .noAddrBits >>= fun _ =>
  require (0 < c.muxInputs) .emptyMultiplexer >>= fun _ =>
  require (0 < c.dmxOutputs) .emptyDemultiplexer >>= fun _ =>
  require (0 < c.blkLines) .emptyBlock >>= fun _ =>
  checkBlocks c.widths c.drvBlocks >>= fun _ =>
  require (0 < c.coreCount) .noCores >>= fun _ =>
  checkBlocks c.widths c.ctlBlocks

/-- R10: the parameters are those of a construction. -/
def Config.WellFormed (c : Config) : Bool :=
  match checkConfig c with
  | .ok _ => true
  | .error _ => false

end Sys2Proof
end

