-- ==== Sys2Proof/Decode.lean ====
section
/-! DEFINITION. Operation records (30_encoding.md R93 to R98): the tuple `(kind, op, a, b)` of R93, its packed 64-bit form
of R94, the decoder (total, refusing by name), the encoder, the opcode table of spec/opcode_table.json, the enumeration
numbers of R92 and the assembler syntax of R100. The checks that depend on `WORD_BITS`, `ADDR_BITS`, `core_count` and the
fixture are made after decoding (WellFormed.lean), as R94 says. -/

namespace Sys2Proof

/-- R93: an operation as the tuple `(kind, op, a, b)`. The tuple exists for every configuration. -/
structure Record where
  kind : Nat
  op : Nat
  a : Nat
  b : Nat
deriving DecidableEq, Repr, Inhabited

/-- Why a record is reserved whatever the parameters are (R98). -/
inductive DecodeError where
  /-- R98: an opcode that is not in the map of R96. -/
  | reservedOpcode (kind op : Nat)
  /-- R98: a non-zero first operand in a record whose operation does not use it. -/
  | unusedFirstOperand (a : Nat)
  /-- R98: a non-zero second operand in a record whose operation does not use it. -/
  | unusedSecondOperand (b : Nat)
  /-- R95: a `Bit` operand with a bit above bit 0 set. -/
  | bitTooWide (b : Nat)
deriving DecidableEq, Repr

/-- R94: the packed form, `kind[63:60] op[59:56] a[55:32] b[31:0]`, taken apart. -/
def unpackRecord (w : BitVec 64) : Record where
  kind := (w.extractLsb' 60 4).toNat
  op := (w.extractLsb' 56 4).toNat
  a := (w.extractLsb' 32 24).toNat
  b := (w.extractLsb' 0 32).toNat

/-- R94: the packed form of a tuple whose fields fit 4, 4, 24 and 32 bits (`Record.Packable`). -/
def packRecord (r : Record) : BitVec 64 :=
  BitVec.ofNat 4 r.kind ++ BitVec.ofNat 4 r.op ++ BitVec.ofNat 24 r.a ++ BitVec.ofNat 32 r.b

/-- R94: the tuple has a packed form. -/
abbrev Record.Packable (r : Record) : Prop := r.kind < 16 ∧ r.op < 16 ∧ r.a < 2 ^ 24 ∧ r.b < 2 ^ 32

/-- R94: the configurations that have a packed form, from the widths, the core count and the sizes of the routers. -/
def hasPackedForm (p : Widths) (coreCount : Nat) (routers : List Nat) : Bool :=
  decide (p.wordBits ≤ 32) && decide (p.addrBits ≤ 32) && decide (coreCount ≤ 2 ^ 24) &&
    routers.all fun n => decide (n ≤ 2 ^ 24)

/-- R93, R94: an operation as the caller issues it, a tuple or a packed record. -/
inductive IssuedRecord where
  | tuple (r : Record)
  | packed (w : BitVec 64)
deriving DecidableEq, Repr, Inhabited

/-- R93, R94: the tuple an issued record stands for. -/
def IssuedRecord.record : IssuedRecord → Record
  | .tuple r => r
  | .packed w => unpackRecord w

/-- R95: a `Bit` operand is `b[0]`. -/
def bitValue (l : Bit) : Nat := if l then 1 else 0

/-- R98: the first operand is unused, so it is 0. -/
def requireNoA (r : Record) : Except DecodeError Unit :=
  if r.a = 0 then .ok () else .error (.unusedFirstOperand r.a)

/-- R98: the second operand is unused, so it is 0. -/
def requireNoB (r : Record) : Except DecodeError Unit :=
  if r.b = 0 then .ok () else .error (.unusedSecondOperand r.b)

/-- R95: the second operand read as a `Bit`; the bits above bit 0 must be 0. -/
def bitOperand (r : Record) : Except DecodeError Bit :=
  match r.b with
  | 0 => .ok false
  | 1 => .ok true
  | b => .error (.bitTooWide b)

/-- R93: an operation without operands. -/
def takeNone (r : Record) (i : Instr) : Except DecodeError Instr :=
  requireNoA r >>= fun _ => requireNoB r >>= fun _ => .ok i

/-- R93, R95: an operation whose one operand is a `Word` or a `Sel` in the second place. -/
def takeB (r : Record) (f : Nat → Instr) : Except DecodeError Instr :=
  requireNoA r >>= fun _ => .ok (f r.b)

/-- R93, R95: an operation whose one operand is a `Bit`. -/
def takeBit (r : Record) (f : Bit → Instr) : Except DecodeError Instr :=
  requireNoA r >>= fun _ => bitOperand r >>= fun l => .ok (f l)

/-- R93, R95: an operation whose one operand is an index or a core id in the first place. -/
def takeA (r : Record) (f : Nat → Instr) : Except DecodeError Instr :=
  requireNoB r >>= fun _ => .ok (f r.a)

/-- R93, R95: an index or core id, and a `Word` or `Sel`. -/
def takeAB (r : Record) (f : Nat → Nat → Instr) : Except DecodeError Instr :=
  .ok (f r.a r.b)

/-- R93, R95: a core id and a `Bit`. -/
def takeABit (r : Record) (f : Nat → Bit → Instr) : Except DecodeError Instr :=
  bitOperand r >>= fun l => .ok (f r.a l)

/-- R96: the operations of kind `srl` (R113 to R116). -/
def decodeSrl (r : Record) : Except DecodeError Instr :=
  match r.op with
  | 0 => takeB r .srlSet
  | 1 => takeNone r .srlReset
  | 2 => takeNone r .srlRead
  | op => .error (.reservedOpcode r.kind op)

/-- R96: the operations of kind `dff` (R117 to R120). -/
def decodeDff (r : Record) : Except DecodeError Instr :=
  match r.op with
  | 0 => takeB r .dffSetData
  | 1 => takeBit r .dffSetClock
  | 2 => takeNone r .dffReset
  | 3 => takeNone r .dffRead
  | op => .error (.reservedOpcode r.kind op)

/-- R96: the operations of kind `srff` (R121 to R125). -/
def decodeSrff (r : Record) : Except DecodeError Instr :=
  match r.op with
  | 0 => takeBit r .srffSetSetQueue
  | 1 => takeBit r .srffSetResetQueue
  | 2 => takeBit r .srffSetClock
  | 3 => takeNone r .srffRead
  | op => .error (.reservedOpcode r.kind op)

/-- R96: the operations of kind `tff` (R126 to R129). -/
def decodeTff (r : Record) : Except DecodeError Instr :=
  match r.op with
  | 0 => takeBit r .tffSetInputQueue
  | 1 => takeBit r .tffSetClock
  | 2 => takeNone r .tffRead
  | op => .error (.reservedOpcode r.kind op)

/-- R96: the operations of kind `mux` (R140 to R144). -/
def decodeMux (r : Record) : Except DecodeError Instr :=
  match r.op with
  | 0 => takeAB r .muxSetInputWord
  | 1 => takeB r .muxSetSelector
  | 2 => takeBit r .muxSetChipSelect
  | 3 => takeNone r .muxIsNarrow
  | 4 => takeNone r .muxRead
  | op => .error (.reservedOpcode r.kind op)

/-- R96: the operations of kind `dmx` (R145 to R149). -/
def decodeDmx (r : Record) : Except DecodeError Instr :=
  match r.op with
  | 0 => takeB r .dmxSetInputWord
  | 1 => takeBit r .dmxSetChipSelect
  | 2 => takeB r .dmxSetSelector
  | 3 => takeNone r .dmxIsNarrow
  | 4 => takeA r .dmxRead
  | op => .error (.reservedOpcode r.kind op)

/-- R96: the operations of kind `cell` (R160 to R166). -/
def decodeCell (r : Record) : Except DecodeError Instr :=
  match r.op with
  | 0 => takeB r .cellSetInput
  | 1 => takeBit r .cellSetChipSelect
  | 2 => takeBit r .cellSetWriteEnable
  | 3 => takeBit r .cellSetClock
  | 4 => takeNone r .cellRead
  | op => .error (.reservedOpcode r.kind op)

/-- R96: the operations of kind `blk` (R174 to R179). -/
def decodeBlk (r : Record) : Except DecodeError Instr :=
  match r.op with
  | 0 => takeBit r .blkSetChipSelect
  | 1 => takeBit r .blkSetWriteEnable
  | 2 => takeBit r .blkSetClock
  | 3 => takeB r .blkSetAddress
  | 4 => takeB r .blkSetFeed
  | 5 => takeNone r .blkReadWord
  | op => .error (.reservedOpcode r.kind op)

/-- R96: the operations of kind `drv` (R192 to R199). -/
def decodeDrv (r : Record) : Except DecodeError Instr :=
  match r.op with
  | 0 => takeBit r .drvSetChipSelect
  | 1 => takeBit r .drvSetWriteEnable
  | 2 => takeB r .drvSetAddress
  | 3 => takeBit r .drvSetClock
  | 4 => takeNone r .drvReadWord
  | 5 => takeB r .drvDetermineBlockIndex
  | 6 => takeB r .drvSetFeed
  | 7 => takeNone r .drvAddressWidth
  | op => .error (.reservedOpcode r.kind op)

/-- R96: the operations of kind `ctl` (R210 to R215). -/
def decodeCtl (r : Record) : Except DecodeError Instr :=
  match r.op with
  | 0 => takeABit r .ctlSetChipSelect
  | 1 => takeABit r .ctlSetWriteEnable
  | 2 => takeAB r .ctlSetAddress
  | 3 => takeAB r .ctlSetFeed
  | 4 => takeBit r .ctlSetClock
  | 5 => takeA r .ctlReadResponse
  | op => .error (.reservedOpcode r.kind op)

/-- R96, R98: the operation a tuple stands for, or the reason it is reserved. -/
def decodeRecord (r : Record) : Except DecodeError Instr :=
  match r.kind with
  | 1 => decodeSrl r
  | 2 => decodeDff r
  | 3 => decodeSrff r
  | 4 => decodeTff r
  | 5 => decodeMux r
  | 6 => decodeDmx r
  | 7 => decodeCell r
  | 8 => decodeBlk r
  | 9 => decodeDrv r
  | 10 => decodeCtl r
  | k => .error (.reservedOpcode k r.op)

/-- R94: the operation a packed record stands for. -/
def decodeWord (w : BitVec 64) : Except DecodeError Instr := decodeRecord (unpackRecord w)

/-- R93, R96: the tuple of an operation. -/
def encodeRecord : Instr → Record
  | .srlSet w => ⟨1, 0, 0, w⟩
  | .srlReset => ⟨1, 1, 0, 0⟩
  | .srlRead => ⟨1, 2, 0, 0⟩
  | .dffSetData w => ⟨2, 0, 0, w⟩
  | .dffSetClock l => ⟨2, 1, 0, bitValue l⟩
  | .dffReset => ⟨2, 2, 0, 0⟩
  | .dffRead => ⟨2, 3, 0, 0⟩
  | .srffSetSetQueue l => ⟨3, 0, 0, bitValue l⟩
  | .srffSetResetQueue l => ⟨3, 1, 0, bitValue l⟩
  | .srffSetClock l => ⟨3, 2, 0, bitValue l⟩
  | .srffRead => ⟨3, 3, 0, 0⟩
  | .tffSetInputQueue l => ⟨4, 0, 0, bitValue l⟩
  | .tffSetClock l => ⟨4, 1, 0, bitValue l⟩
  | .tffRead => ⟨4, 2, 0, 0⟩
  | .muxSetInputWord i w => ⟨5, 0, i, w⟩
  | .muxSetSelector a => ⟨5, 1, 0, a⟩
  | .muxSetChipSelect l => ⟨5, 2, 0, bitValue l⟩
  | .muxIsNarrow => ⟨5, 3, 0, 0⟩
  | .muxRead => ⟨5, 4, 0, 0⟩
  | .dmxSetInputWord w => ⟨6, 0, 0, w⟩
  | .dmxSetChipSelect l => ⟨6, 1, 0, bitValue l⟩
  | .dmxSetSelector a => ⟨6, 2, 0, a⟩
  | .dmxIsNarrow => ⟨6, 3, 0, 0⟩
  | .dmxRead i => ⟨6, 4, i, 0⟩
  | .cellSetInput w => ⟨7, 0, 0, w⟩
  | .cellSetChipSelect l => ⟨7, 1, 0, bitValue l⟩
  | .cellSetWriteEnable l => ⟨7, 2, 0, bitValue l⟩
  | .cellSetClock l => ⟨7, 3, 0, bitValue l⟩
  | .cellRead => ⟨7, 4, 0, 0⟩
  | .blkSetChipSelect l => ⟨8, 0, 0, bitValue l⟩
  | .blkSetWriteEnable l => ⟨8, 1, 0, bitValue l⟩
  | .blkSetClock l => ⟨8, 2, 0, bitValue l⟩
  | .blkSetAddress a => ⟨8, 3, 0, a⟩
  | .blkSetFeed w => ⟨8, 4, 0, w⟩
  | .blkReadWord => ⟨8, 5, 0, 0⟩
  | .drvSetChipSelect l => ⟨9, 0, 0, bitValue l⟩
  | .drvSetWriteEnable l => ⟨9, 1, 0, bitValue l⟩
  | .drvSetAddress a => ⟨9, 2, 0, a⟩
  | .drvSetClock l => ⟨9, 3, 0, bitValue l⟩
  | .drvReadWord => ⟨9, 4, 0, 0⟩
  | .drvDetermineBlockIndex a => ⟨9, 5, 0, a⟩
  | .drvSetFeed w => ⟨9, 6, 0, w⟩
  | .drvAddressWidth => ⟨9, 7, 0, 0⟩
  | .ctlSetChipSelect c l => ⟨10, 0, c, bitValue l⟩
  | .ctlSetWriteEnable c l => ⟨10, 1, c, bitValue l⟩
  | .ctlSetAddress c a => ⟨10, 2, c, a⟩
  | .ctlSetFeed c w => ⟨10, 3, c, w⟩
  | .ctlSetClock l => ⟨10, 4, 0, bitValue l⟩
  | .ctlReadResponse c => ⟨10, 5, c, 0⟩

/-- R94: the packed record of an operation whose operands fit their fields. -/
def encodeWord (i : Instr) : BitVec 64 := packRecord (encodeRecord i)

/-- The operation the decoder reads from a record of `nbits` bits whose number is `w` (bit 0 the least significant, as
spec/opcode_table.json numbers them); `none` where the decoder refuses it. A record is one 64-bit value without a byte
order (R62, log entry 13). -/
def decodeTableWord (nbits w : Nat) : Option Instr :=
  match decodeWord (BitVec.ofNat 64 (w % 2 ^ nbits)) with
  | .ok i => some i
  | .error _ => none

/-- A row of spec/opcode_table.json: the bits under `mask` must equal `pattern` (its `match`). -/
structure OpcodeRow where
  mnemonic : String
  pattern : BitVec 64
  mask : BitVec 64
deriving DecidableEq, Repr

/-- 30_encoding.md R96, spec/opcode_table.json: the rows of kind `srl`. -/
def srlRows : List OpcodeRow :=
  [
    ⟨"SRL.set", 0x1000000000000000, 0xFFFFFFFF00000000⟩,
    ⟨"SRL.reset", 0x1100000000000000, 0xFFFFFFFFFFFFFFFF⟩,
    ⟨"SRL.read", 0x1200000000000000, 0xFFFFFFFFFFFFFFFF⟩ ]

/-- 30_encoding.md R96, spec/opcode_table.json: the rows of kind `dff`. -/
def dffRows : List OpcodeRow :=
  [
    ⟨"DFF.set_data", 0x2000000000000000, 0xFFFFFFFF00000000⟩,
    ⟨"DFF.set_clock", 0x2100000000000000, 0xFFFFFFFFFFFFFFFE⟩,
    ⟨"DFF.reset", 0x2200000000000000, 0xFFFFFFFFFFFFFFFF⟩,
    ⟨"DFF.read", 0x2300000000000000, 0xFFFFFFFFFFFFFFFF⟩ ]

/-- 30_encoding.md R96, spec/opcode_table.json: the rows of kind `srff`. -/
def srffRows : List OpcodeRow :=
  [
    ⟨"SRFF.set_set_queue", 0x3000000000000000, 0xFFFFFFFFFFFFFFFE⟩,
    ⟨"SRFF.set_reset_queue", 0x3100000000000000, 0xFFFFFFFFFFFFFFFE⟩,
    ⟨"SRFF.set_clock", 0x3200000000000000, 0xFFFFFFFFFFFFFFFE⟩,
    ⟨"SRFF.read", 0x3300000000000000, 0xFFFFFFFFFFFFFFFF⟩ ]

/-- 30_encoding.md R96, spec/opcode_table.json: the rows of kind `tff`. -/
def tffRows : List OpcodeRow :=
  [
    ⟨"TFF.set_input_queue", 0x4000000000000000, 0xFFFFFFFFFFFFFFFE⟩,
    ⟨"TFF.set_clock", 0x4100000000000000, 0xFFFFFFFFFFFFFFFE⟩,
    ⟨"TFF.read", 0x4200000000000000, 0xFFFFFFFFFFFFFFFF⟩ ]

/-- 30_encoding.md R96, spec/opcode_table.json: the rows of kind `mux`. -/
def muxRows : List OpcodeRow :=
  [
    ⟨"MUX.set_input_word", 0x5000000000000000, 0xFF00000000000000⟩,
    ⟨"MUX.set_selector", 0x5100000000000000, 0xFFFFFFFF00000000⟩,
    ⟨"MUX.set_chip_select", 0x5200000000000000, 0xFFFFFFFFFFFFFFFE⟩,
    ⟨"MUX.is_narrow", 0x5300000000000000, 0xFFFFFFFFFFFFFFFF⟩,
    ⟨"MUX.read", 0x5400000000000000, 0xFFFFFFFFFFFFFFFF⟩ ]

/-- 30_encoding.md R96, spec/opcode_table.json: the rows of kind `dmx`. -/
def dmxRows : List OpcodeRow :=
  [
    ⟨"DMX.set_input_word", 0x6000000000000000, 0xFFFFFFFF00000000⟩,
    ⟨"DMX.set_chip_select", 0x6100000000000000, 0xFFFFFFFFFFFFFFFE⟩,
    ⟨"DMX.set_selector", 0x6200000000000000, 0xFFFFFFFF00000000⟩,
    ⟨"DMX.is_narrow", 0x6300000000000000, 0xFFFFFFFFFFFFFFFF⟩,
    ⟨"DMX.read", 0x6400000000000000, 0xFF000000FFFFFFFF⟩ ]

/-- 30_encoding.md R96, spec/opcode_table.json: the rows of kind `cell`. -/
def cellRows : List OpcodeRow :=
  [
    ⟨"CELL.set_input", 0x7000000000000000, 0xFFFFFFFF00000000⟩,
    ⟨"CELL.set_chip_select", 0x7100000000000000, 0xFFFFFFFFFFFFFFFE⟩,
    ⟨"CELL.set_write_enable", 0x7200000000000000, 0xFFFFFFFFFFFFFFFE⟩,
    ⟨"CELL.set_clock", 0x7300000000000000, 0xFFFFFFFFFFFFFFFE⟩,
    ⟨"CELL.read", 0x7400000000000000, 0xFFFFFFFFFFFFFFFF⟩ ]

/-- 30_encoding.md R96, spec/opcode_table.json: the rows of kind `blk`. -/
def blkRows : List OpcodeRow :=
  [
    ⟨"BLK.set_chip_select", 0x8000000000000000, 0xFFFFFFFFFFFFFFFE⟩,
    ⟨"BLK.set_write_enable", 0x8100000000000000, 0xFFFFFFFFFFFFFFFE⟩,
    ⟨"BLK.set_clock", 0x8200000000000000, 0xFFFFFFFFFFFFFFFE⟩,
    ⟨"BLK.set_address", 0x8300000000000000, 0xFFFFFFFF00000000⟩,
    ⟨"BLK.set_feed", 0x8400000000000000, 0xFFFFFFFF00000000⟩,
    ⟨"BLK.read_word", 0x8500000000000000, 0xFFFFFFFFFFFFFFFF⟩ ]

/-- 30_encoding.md R96, spec/opcode_table.json: the rows of kind `drv`. -/
def drvRows : List OpcodeRow :=
  [
    ⟨"DRV.set_chip_select", 0x9000000000000000, 0xFFFFFFFFFFFFFFFE⟩,
    ⟨"DRV.set_write_enable", 0x9100000000000000, 0xFFFFFFFFFFFFFFFE⟩,
    ⟨"DRV.set_address", 0x9200000000000000, 0xFFFFFFFF00000000⟩,
    ⟨"DRV.set_clock", 0x9300000000000000, 0xFFFFFFFFFFFFFFFE⟩,
    ⟨"DRV.read_word", 0x9400000000000000, 0xFFFFFFFFFFFFFFFF⟩,
    ⟨"DRV.determine_block_index", 0x9500000000000000, 0xFFFFFFFF00000000⟩,
    ⟨"DRV.set_feed", 0x9600000000000000, 0xFFFFFFFF00000000⟩,
    ⟨"DRV.address_width", 0x9700000000000000, 0xFFFFFFFFFFFFFFFF⟩ ]

/-- 30_encoding.md R96, spec/opcode_table.json: the rows of kind `ctl`. -/
def ctlRows : List OpcodeRow :=
  [
    ⟨"CTL.set_chip_select", 0xA000000000000000, 0xFF000000FFFFFFFE⟩,
    ⟨"CTL.set_write_enable", 0xA100000000000000, 0xFF000000FFFFFFFE⟩,
    ⟨"CTL.set_address", 0xA200000000000000, 0xFF00000000000000⟩,
    ⟨"CTL.set_feed", 0xA300000000000000, 0xFF00000000000000⟩,
    ⟨"CTL.set_clock", 0xA400000000000000, 0xFFFFFFFFFFFFFFFE⟩,
    ⟨"CTL.read_response", 0xA500000000000000, 0xFF000000FFFFFFFF⟩ ]

/-- R96: all 49 rows of the opcode map. -/
def opcodeTable : List OpcodeRow :=
  srlRows ++ dffRows ++ srffRows ++ tffRows ++ muxRows ++ dmxRows ++ cellRows ++ blkRows ++ drvRows ++ ctlRows

/-- R94: the record has the row's opcode, no bit in an unused operand field, and a `Bit` operand of one bit. -/
def OpcodeRow.Matches (row : OpcodeRow) (w : BitVec 64) : Bool := w &&& row.mask == row.pattern

/-- R96: the numbers of the component kinds. -/
def kindCode : Kind → Nat
  | .srl => 1
  | .dff => 2
  | .srff => 3
  | .tff => 4
  | .mux => 5
  | .dmx => 6
  | .cell => 7
  | .blk => 8
  | .drv => 9
  | .ctl => 10

/-- R96: the component kind of a kind number. -/
def kindOfCode : Nat → Option Kind
  | 1 => some .srl
  | 2 => some .dff
  | 3 => some .srff
  | 4 => some .tff
  | 5 => some .mux
  | 6 => some .dmx
  | 7 => some .cell
  | 8 => some .blk
  | 9 => some .drv
  | 10 => some .ctl
  | _ => none

/-- R92: the numbers of the trigger modes, in the source's order of listing. -/
def triggerCode : TriggerMode → Nat
  | .risingEdge => 0
  | .fallingEdge => 1
  | .bothEdges => 2

/-- R92: the trigger mode of a number; 3 is reserved. -/
def triggerOfCode : Nat → Option TriggerMode
  | 0 => some .risingEdge
  | 1 => some .fallingEdge
  | 2 => some .bothEdges
  | _ => none

/-- R100: a `Bit` operand is written `true` or `false`. -/
def levelText (l : Bit) : String := if l then "true" else "false"

/-- R100: the operands in parentheses, separated by commas. -/
def operandText (operands : List String) : String := "(" ++ String.intercalate ", " operands ++ ")"

/-- R100: an operation as one line of assembler text, `KIND.name(operands)`, numbers in decimal, the core id first. -/
def assemblerText (o : Instr) : String :=
  match o with
  | .srlSet w => o.mnemonic ++ operandText [toString w]
  | .srlReset => o.mnemonic ++ operandText []
  | .srlRead => o.mnemonic ++ operandText []
  | .dffSetData w => o.mnemonic ++ operandText [toString w]
  | .dffSetClock l => o.mnemonic ++ operandText [levelText l]
  | .dffReset => o.mnemonic ++ operandText []
  | .dffRead => o.mnemonic ++ operandText []
  | .srffSetSetQueue l => o.mnemonic ++ operandText [levelText l]
  | .srffSetResetQueue l => o.mnemonic ++ operandText [levelText l]
  | .srffSetClock l => o.mnemonic ++ operandText [levelText l]
  | .srffRead => o.mnemonic ++ operandText []
  | .tffSetInputQueue l => o.mnemonic ++ operandText [levelText l]
  | .tffSetClock l => o.mnemonic ++ operandText [levelText l]
  | .tffRead => o.mnemonic ++ operandText []
  | .muxSetInputWord i w => o.mnemonic ++ operandText [toString i, toString w]
  | .muxSetSelector a => o.mnemonic ++ operandText [toString a]
  | .muxSetChipSelect l => o.mnemonic ++ operandText [levelText l]
  | .muxIsNarrow => o.mnemonic ++ operandText []
  | .muxRead => o.mnemonic ++ operandText []
  | .dmxSetInputWord w => o.mnemonic ++ operandText [toString w]
  | .dmxSetChipSelect l => o.mnemonic ++ operandText [levelText l]
  | .dmxSetSelector a => o.mnemonic ++ operandText [toString a]
  | .dmxIsNarrow => o.mnemonic ++ operandText []
  | .dmxRead i => o.mnemonic ++ operandText [toString i]
  | .cellSetInput w => o.mnemonic ++ operandText [toString w]
  | .cellSetChipSelect l => o.mnemonic ++ operandText [levelText l]
  | .cellSetWriteEnable l => o.mnemonic ++ operandText [levelText l]
  | .cellSetClock l => o.mnemonic ++ operandText [levelText l]
  | .cellRead => o.mnemonic ++ operandText []
  | .blkSetChipSelect l => o.mnemonic ++ operandText [levelText l]
  | .blkSetWriteEnable l => o.mnemonic ++ operandText [levelText l]
  | .blkSetClock l => o.mnemonic ++ operandText [levelText l]
  | .blkSetAddress a => o.mnemonic ++ operandText [toString a]
  | .blkSetFeed w => o.mnemonic ++ operandText [toString w]
  | .blkReadWord => o.mnemonic ++ operandText []
  | .drvSetChipSelect l => o.mnemonic ++ operandText [levelText l]
  | .drvSetWriteEnable l => o.mnemonic ++ operandText [levelText l]
  | .drvSetAddress a => o.mnemonic ++ operandText [toString a]
  | .drvSetClock l => o.mnemonic ++ operandText [levelText l]
  | .drvReadWord => o.mnemonic ++ operandText []
  | .drvDetermineBlockIndex a => o.mnemonic ++ operandText [toString a]
  | .drvSetFeed w => o.mnemonic ++ operandText [toString w]
  | .drvAddressWidth => o.mnemonic ++ operandText []
  | .ctlSetChipSelect c l => o.mnemonic ++ operandText [toString c, levelText l]
  | .ctlSetWriteEnable c l => o.mnemonic ++ operandText [toString c, levelText l]
  | .ctlSetAddress c a => o.mnemonic ++ operandText [toString c, toString a]
  | .ctlSetFeed c w => o.mnemonic ++ operandText [toString c, toString w]
  | .ctlSetClock l => o.mnemonic ++ operandText [levelText l]
  | .ctlReadResponse c => o.mnemonic ++ operandText [toString c]

end Sys2Proof
end

