-- ==== Sys2Proof/Machine/Flags.lean ====
section
/-! DEFINITION. The one edge predicate every clock-sensitive rule is stated through (40_bistables.md R110 to R112), the
packed control word (30_encoding.md R90, 43_memory_block.md R170) and the narrowness query (00_scope.md R11). -/

namespace Sys2Proof.Machine

/-- R110: a genuine level change triggers in mode BothEdges, in mode RisingEdge when the new level is true, and in mode
FallingEdge when the new level is false. -/
def fires (old new : Bit) (mode : TriggerMode) : Bool :=
  old != new &&
    match mode with
    | .bothEdges => true
    | .risingEdge => new
    | .fallingEdge => !new

/-- R111: the clocked step. A re-assertion of the stored level changes nothing; a genuine change is observed, firing or
not, and the primitive's action runs when it fires. -/
def clockedStep {α : Type} (mode : TriggerMode) (old level : Bit) (observe action : α → α) (x : α) : α :=
  if level = old then x
  else if fires old level mode then action (observe x)
  else observe x

/-- R124: the SR resolution table at trigger time. -/
def resolveSR (reset set stored : Bit) : Bit :=
  match reset, set with
  | true, false => false
  | false, true => true
  | true, true => !stored
  | false, false => stored

/-- R170, R90: `cs + 2*we + 4*clk`. -/
def pack (cs we clk : Bit) : ControlWord :=
  BitVec.ofBool clk ++ BitVec.ofBool we ++ BitVec.ofBool cs

/-- R90: bit 0 of a control word, the chip-select. -/
def controlCs (w : ControlWord) : Bit := w.getLsbD 0

/-- R90: bit 1 of a control word, the write-enable. -/
def controlWe (w : ControlWord) : Bit := w.getLsbD 1

/-- R90: bit 2 of a control word, the clock level. -/
def controlClk (w : ControlWord) : Bit := w.getLsbD 2

/-- R11, R143: a router of `n` lines reports itself narrow. -/
def isNarrow (n : Nat) : Bit := decide (n < Config.narrowLimit)

end Sys2Proof.Machine
end

