-- ==== Sys2Proof/Machine/Operands.lean ====
section
/-! DEFINITION. How an address operand finds its line: a block's selected line (10_state.md R36), the driver's linear scan
(44_memory_driver.md R197) and the derived address width (10_state.md R39). -/

namespace Sys2Proof.Machine

/-- R36: the line of a block of `n` lines at `base` that the address selects, if it lies in the block. -/
def localLine (base n : Nat) (addr : Nat) : Option Nat :=
  if base ≤ addr ∧ addr < base + n then some (addr - base) else none

/-- R197: the scan from block number `b` on, `acc` lines having been passed; the sum is an unbounded natural (D31). -/
def scanBlocks : List Nat → Nat → Nat → Nat → Option Nat
  | [], _, _, _ => none
  | n :: rest, acc, b, addr => if acc + n > addr then some b else scanBlocks rest (acc + n) (b + 1) addr

/-- R197: the first block whose cumulative line count exceeds the address. -/
def owningBlock (sizes : List Nat) (addr : Nat) : Option Nat := scanBlocks sizes 0 0 addr

/-- R39: the least exponent from `k` on whose power of two reaches `n`, tried `fuel` times. -/
def leastExponent (n : Nat) : Nat → Nat → Nat
  | 0, k => k
  | fuel + 1, k => if n ≤ 2 ^ k then k else leastExponent n fuel (k + 1)

/-- R39: `ceil(log2(n))`, the least `k` with `2^k ≥ n`; `n` tries reach it, since `2^n ≥ n`. -/
def ceilLog2 (n : Nat) : Nat := leastExponent n n 0

end Sys2Proof.Machine
end

