-- ==== Sys2Proof/Machine/Components.lean ====
section
/-! DEFINITION. The state of every component (10_state.md R21 to R43) as plain data, and the state in which its constructor
leaves it (R44: every `Bit` false, every word, selector and array element 0). Ownership is a tree (R20): a block owns its
lines and its three routers, a driver its blocks, a controller its driver and its queue records. -/

namespace Sys2Proof.Machine

/-- R21: `SetResetLatch`, unconditional and unclocked. -/
structure SetResetLatch where
  stored : Word
deriving DecidableEq, Repr, Inhabited

/-- R22: `ClockedSetResetLatch`, the D flip-flop; the trigger mode is a construction constant. -/
structure ClockedSetResetLatch where
  stored : Word
  directInput : Word
  clockState : Bit
  triggerMode : TriggerMode
deriving DecidableEq, Repr, Inhabited

/-- R23: the SR flip-flop. -/
structure SRFlipFlop where
  stored : Bit
  setQueue : Bit
  resetQueue : Bit
  clockState : Bit
  triggerMode : TriggerMode
deriving DecidableEq, Repr, Inhabited

/-- R24: the T flip-flop. -/
structure TFlipFlop where
  stored : Bit
  inputQueue : Bit
  clockState : Bit
  triggerMode : TriggerMode
deriving DecidableEq, Repr, Inhabited

/-- R25: `Multiplexer`; its construction constant `N` is the number of its inputs. -/
structure Multiplexer where
  inputs : List Word
  selector : Nat
  cs : Bit
deriving DecidableEq, Repr, Inhabited

/-- R26: `Demultiplexer`, with construction constant `n`. It has no output registers. The control demultiplexer of a
block carries a `ControlWord` where the others carry a `Word`. -/
structure Demultiplexer (α : Type) where
  n : Nat
  input : α
  selector : Nat
  cs : Bit
deriving DecidableEq, Repr, Inhabited

/-- R27: `RegisterParallelInParallelOut`, one memory line. `clock` is the level last accepted. -/
structure RegisterCell where
  clock : Bit
  queued : Word
  cs : Bit
  we : Bit
  data : Word
deriving DecidableEq, Repr, Inhabited

/-- R30, R31: `StaticRandomAccessMemory`. Its construction constant `N` is the number of its lines; `addr` is the address
as supplied. The three routers hold copies of block fields (log entry 7). -/
structure MemoryBlock where
  base : Nat
  cs : Bit
  we : Bit
  clk : Bit
  addr : Nat
  feed : Word
  lines : List RegisterCell
  controlDemux : Demultiplexer ControlWord
  writeDemux : Demultiplexer Word
  readMux : Multiplexer
deriving DecidableEq, Repr, Inhabited

/-- R38: `StaticRandomAccessMemoryDriver`; `addressWidth` is a construction constant (R39). -/
structure Driver where
  blocks : List MemoryBlock
  addr : Nat
  addressWidth : Nat
deriving DecidableEq, Repr, Inhabited

/-- R41: one core's request and its last captured response. -/
structure QueueRecord where
  cs : Bit
  we : Bit
  addr : Nat
  feed : Word
  response : Word
deriving DecidableEq, Repr, Inhabited

/-- R40: the memory controller; `core_count` is the number of its queue records. -/
structure Controller where
  focus : Nat
  clock : Bit
  queue : List QueueRecord
  driver : Driver
deriving DecidableEq, Repr, Inhabited

/-- R21, R44. -/
def SetResetLatch.construct : SetResetLatch := ⟨0⟩

/-- R22, R44, R45. -/
def ClockedSetResetLatch.construct (mode : TriggerMode) : ClockedSetResetLatch := ⟨0, 0, false, mode⟩

/-- R23, R44, R45. -/
def SRFlipFlop.construct (mode : TriggerMode) : SRFlipFlop := ⟨false, false, false, false, mode⟩

/-- R24, R44, R45. -/
def TFlipFlop.construct (mode : TriggerMode) : TFlipFlop := ⟨false, false, false, mode⟩

/-- R25, R44. -/
def Multiplexer.construct (n : Nat) : Multiplexer := ⟨List.replicate n 0, 0, false⟩

/-- R26, R44. -/
def Demultiplexer.construct {α : Type} (zero : α) (n : Nat) : Demultiplexer α := ⟨n, zero, 0, false⟩

/-- R27, R44, R45. -/
def RegisterCell.construct : RegisterCell := ⟨false, 0, false, false, 0⟩

/-- R26, R30, R44, R260: every chip-select is false, the routers' too; the copies of R31 begin with the first operation of the
block (log entry 7). -/
def MemoryBlock.construct (base n : Nat) : MemoryBlock where
  base := base
  cs := false
  we := false
  clk := false
  addr := 0
  feed := 0
  lines := List.replicate n RegisterCell.construct
  controlDemux := Demultiplexer.construct 0 n
  writeDemux := Demultiplexer.construct 0 n
  readMux := Multiplexer.construct n

/-- R190: the blocks in address order, each with its `base` the sum of the sizes before it. -/
def constructBlocks : Nat → List Nat → List MemoryBlock
  | _, [] => []
  | base, n :: rest => MemoryBlock.construct base n :: constructBlocks (base + n) rest

/-- R38, R190. -/
def Driver.construct (sizes : List Nat) : Driver where
  blocks := constructBlocks 0 sizes
  addr := 0
  addressWidth := ceilLog2 (totalLines sizes)

/-- R41, R44. -/
def QueueRecord.construct : QueueRecord := ⟨false, false, 0, 0, 0⟩

/-- R40, R43, R45: over a driver at its reset state, with the focus on core 0. -/
def Controller.construct (coreCount : Nat) (sizes : List Nat) : Controller where
  focus := 0
  clock := false
  queue := List.replicate coreCount QueueRecord.construct
  driver := Driver.construct sizes

end Sys2Proof.Machine
end

