-- ==== Sys2Proof/Machine/State.lean ====
section
/-! DEFINITION. The machine's state as plain data: one component of each kind, the width parameters, the fixture's kind,
the caller's remaining operations and returned values, and the run status; the faults and refusals; the state after
construction. -/

namespace Sys2Proof.Machine

/-- R231: the complete taxonomy, two faults, both fatal. Raised by the operations of R233 and R234 through `raise`. The
spec gives both, with the recorded value of R231, so stopping on them is what the hardware does. -/
inductive Fault where
  /-- R233, code 1 (alias `IndexOutOfRange`): raised by `MUX.set_input_word`, `MUX.set_selector`, `DMX.set_selector`,
  `DMX.read` and `BLK.read_word`, with the offending selector, index or address. Safe: the spec's own fault. -/
  | selectorOutOfRange (value : Nat)
  /-- R234, code 2: raised by `DRV.read_word`, `DRV.determine_block_index` and a rising `CTL.set_clock`, with the offending
  global address. Safe: the spec's own fault. -/
  | addressOutOfRange (value : Nat)
deriving DecidableEq, Repr, Inhabited

/-- Why a step gives the hardware no operation. None of them is a fault or a transition (R98, R238). -/
inductive Refusal where
  /-- An operation of the opcode map without a meaning; no arm of `exec` answers it. Safe. -/
  | notModelled (mnemonic : String)
  /-- R98: raised by `step` for a record that is reserved whatever the parameters are. Safe: the spec refuses it too. -/
  | reservedRecord (e : DecodeError)
  /-- R94: raised by `step` for a packed record where the configuration has no packed form. Safe: the spec has no such
  record. -/
  | noPackedForm
  /-- R97, R98, R222, R238: raised by `step`, and by the per-core operations for a core id not below `core_count`, for an
  operand outside its type or a record of another kind. Safe: the spec refuses it too. -/
  | illFormed (e : OperandError)
deriving DecidableEq, Repr

/-- R51, R232: whether a fault has been raised in this run. -/
inductive RunStatus where
  | noFault
  | faulted (f : Fault)
deriving DecidableEq, Repr, Inhabited

/-- R14, R96: what a read or query returns to the caller: a `Word`, a `Bit` or a `Nat`. -/
inductive Value where
  | word (w : Word)
  | bit (b : Bit)
  | nat (n : Nat)
deriving DecidableEq, Repr, Inhabited

/-- One step's outcome. -/
abbrev Result (σ : Type) := Host.Outcome σ Fault Refusal

/-- The whole state. `widths` and `fixture` are construction parameters no operation changes (R7, R8, R97); the ten
components share nothing (R20, log entry 1); `program` is the operations the caller has still to issue and `returned` the
values the reads have returned so far, oldest first (R50, R277, log entries 4 and 8); `status` is R51. -/
structure State where
  widths : Widths
  fixture : Kind
  srl : SetResetLatch
  dff : ClockedSetResetLatch
  srff : SRFlipFlop
  tff : TFlipFlop
  mux : Multiplexer
  dmx : Demultiplexer Word
  cell : RegisterCell
  blk : MemoryBlock
  drv : Driver
  ctl : Controller
  program : List IssuedRecord
  returned : List Value
  status : RunStatus
deriving DecidableEq, Repr, Inhabited

/-- R262: the state in which construction with these parameters leaves the hardware (R44, R45, R260). -/
def State.construct (c : Config) : State where
  widths := c.widths
  fixture := c.fixture
  srl := SetResetLatch.construct
  dff := ClockedSetResetLatch.construct c.dffMode
  srff := SRFlipFlop.construct c.srffMode
  tff := TFlipFlop.construct c.tffMode
  mux := Multiplexer.construct c.muxInputs
  dmx := Demultiplexer.construct 0 c.dmxOutputs
  cell := RegisterCell.construct
  blk := MemoryBlock.construct c.blkBase c.blkLines
  drv := Driver.construct c.drvBlocks
  ctl := Controller.construct c.coreCount c.ctlBlocks
  program := []
  returned := []
  status := .noFault

/-- R238: a construction outside R10 is refused; it is neither a fault nor a transition. -/
def State.build (c : Config) : Except ConstructionError State :=
  match checkConfig c with
  | .ok _ => .ok (State.construct c)
  | .error e => .error e

/-- R44, R260: reset is construction; the parameters are those of log entry 2. No operation has been issued. -/
def State.reset : State := State.construct Config.reference

end Sys2Proof.Machine
end

