-- ==== Sys2Proof/Machine/Ops.lean ====
section
/-! DEFINITION. The named operations over the components, from the leaves up (40_bistables.md to 45_memory_controller.md):
each is the transition of one component, called by the meanings and by the components that own it. `raise` is the one
shared fault entry (60_exceptions.md R230, R241); there is no return from a fault (R242). -/

namespace Sys2Proof.Machine

/-! ## Faults and results -/

/-- R230, R241: the operation ends in the fault; it saves nothing, transfers control nowhere and returns no value. -/
def raise {σ : Type} (f : Fault) : Result σ := .fault f

/-- R231: the numbers of the faults. -/
def faultCode : Fault → Nat
  | .selectorOutOfRange _ => 1
  | .addressOutOfRange _ => 2

/-- R231: the recorded value. -/
def faultInfo : Fault → Nat
  | .selectorOutOfRange v => v
  | .addressOutOfRange v => v

/-- R230: go on with what a component answered, or end the operation in its fault. -/
def orRaise {α : Type} (r : Except Fault α) (go : α → State) : Result State :=
  match r with
  | .ok a => .next (go a)
  | .error f => raise f

/-- R14, R277: a read or query returns a value to the caller. -/
def State.returning (s : State) (v : Value) : State := { s with returned := s.returned ++ [v] }

/-! The ten components, each replaced as a whole (R20: an operation writes its own component only). -/

def State.putSrl (s : State) (x : SetResetLatch) : State := { s with srl := x }
def State.putDff (s : State) (x : ClockedSetResetLatch) : State := { s with dff := x }
def State.putSrff (s : State) (x : SRFlipFlop) : State := { s with srff := x }
def State.putTff (s : State) (x : TFlipFlop) : State := { s with tff := x }
def State.putMux (s : State) (x : Multiplexer) : State := { s with mux := x }
def State.putDmx (s : State) (x : Demultiplexer Word) : State := { s with dmx := x }
def State.putCell (s : State) (x : RegisterCell) : State := { s with cell := x }
def State.putBlk (s : State) (x : MemoryBlock) : State := { s with blk := x }
def State.putDrv (s : State) (x : Driver) : State := { s with drv := x }
def State.putCtl (s : State) (x : Controller) : State := { s with ctl := x }
def State.putProgram (s : State) (p : List IssuedRecord) : State := { s with program := p }

/-! ## Bistables (40_bistables.md) -/

/-- R113: store the word immediately. -/
def SetResetLatch.set (w : Word) (x : SetResetLatch) : SetResetLatch := { x with stored := w }

/-- R114: store the zero value. -/
def SetResetLatch.reset (x : SetResetLatch) : SetResetLatch := { x with stored := 0 }

/-- R116: the output, always visible. -/
def SetResetLatch.read (x : SetResetLatch) : Word := x.stored

/-- R117: queue the word; nothing is stored before the qualifying edge. -/
def ClockedSetResetLatch.setData (w : Word) (x : ClockedSetResetLatch) : ClockedSetResetLatch :=
  { x with directInput := w }

/-- R118: the clocked step with the action `stored <- direct_input` (copied, not moved). -/
def ClockedSetResetLatch.setClock (level : Bit) (x : ClockedSetResetLatch) : ClockedSetResetLatch :=
  clockedStep x.triggerMode x.clockState level
    (fun y => { y with clockState := level })
    (fun y => { y with stored := y.directInput }) x

/-- R119: zero the stored word and the queued input; the clock level is left as it is. -/
def ClockedSetResetLatch.reset (x : ClockedSetResetLatch) : ClockedSetResetLatch :=
  { x with stored := 0, directInput := 0 }

/-- R120: the output, always visible; never the queued input. -/
def ClockedSetResetLatch.read (x : ClockedSetResetLatch) : Word := x.stored

/-- R121: the S input. -/
def SRFlipFlop.setSetQueue (l : Bit) (x : SRFlipFlop) : SRFlipFlop := { x with setQueue := l }

/-- R122: the R input. -/
def SRFlipFlop.setResetQueue (l : Bit) (x : SRFlipFlop) : SRFlipFlop := { x with resetQueue := l }

/-- R123: the clocked step with the resolution table R124; the queued bits persist (R128). -/
def SRFlipFlop.setClock (level : Bit) (x : SRFlipFlop) : SRFlipFlop :=
  clockedStep x.triggerMode x.clockState level
    (fun y => { y with clockState := level })
    (fun y => { y with stored := resolveSR y.resetQueue y.setQueue y.stored }) x

/-- R125: the stored bit. -/
def SRFlipFlop.read (x : SRFlipFlop) : Bit := x.stored

/-- R126: the T input. -/
def TFlipFlop.setInputQueue (l : Bit) (x : TFlipFlop) : TFlipFlop := { x with inputQueue := l }

/-- R127: the clocked step that inverts the stored bit when the T input is true; the T input persists (R128). -/
def TFlipFlop.setClock (level : Bit) (x : TFlipFlop) : TFlipFlop :=
  clockedStep x.triggerMode x.clockState level
    (fun y => { y with clockState := level })
    (fun y => { y with stored := if y.inputQueue then !y.stored else y.stored }) x

/-- R129: the stored bit. -/
def TFlipFlop.read (x : TFlipFlop) : Bit := x.stored

/-! ## Routers (41_routers.md) -/

/-- R25: the construction constant `N`. -/
def Multiplexer.n (m : Multiplexer) : Nat := m.inputs.length

/-- R141, R233: the check every selector and index of a router passes before it is used. -/
def checkSelector (v : Nat) (n : Nat) : Except Fault Unit :=
  if v < n then .ok () else .error (.selectorOutOfRange v)

/-- R140: load input `i`, or fault. -/
def Multiplexer.setInputWord (i : Nat) (w : Word) (m : Multiplexer) : Except Fault Multiplexer :=
  match checkSelector i m.n with
  | .ok _ => .ok { m with inputs := m.inputs.set i w }
  | .error f => .error f

/-- R141: reject an out-of-range selector at the moment of selection, never saturate. -/
def Multiplexer.setSelector (v : Nat) (m : Multiplexer) : Except Fault Multiplexer :=
  match checkSelector v m.n with
  | .ok _ => .ok { m with selector := v }
  | .error f => .error f

/-- R142. -/
def Multiplexer.setChipSelect (l : Bit) (m : Multiplexer) : Multiplexer := { m with cs := l }

/-- R144: 0 if deselected, else the selected input. -/
def Multiplexer.read (m : Multiplexer) : Word := if m.cs then m.inputs[m.selector]?.getD 0 else 0

/-- R145. -/
def Demultiplexer.setInputWord {α : Type} (w : α) (d : Demultiplexer α) : Demultiplexer α := { d with input := w }

/-- R146. -/
def Demultiplexer.setChipSelect {α : Type} (l : Bit) (d : Demultiplexer α) : Demultiplexer α := { d with cs := l }

/-- R147: reject an out-of-range selector at the moment of selection. -/
def Demultiplexer.setSelector {α : Type} (v : Nat) (d : Demultiplexer α) : Except Fault (Demultiplexer α) :=
  match checkSelector v d.n with
  | .ok _ => .ok { d with selector := v }
  | .error f => .error f

/-- R26, R149: output `j` is the input if `j` is the selected output and the chip-select is asserted, else 0. -/
def Demultiplexer.output {α : Type} [OfNat α 0] (d : Demultiplexer α) (j : Nat) : α :=
  if d.cs ∧ j = d.selector then d.input else 0

/-- R149: the index is checked first, so an output that does not exist faults also when deselected (R240). -/
def Demultiplexer.read {α : Type} [OfNat α 0] (j : Nat) (d : Demultiplexer α) : Except Fault α :=
  match checkSelector j d.n with
  | .ok _ => .ok (d.output j)
  | .error f => .error f

/-! ## Register cell (42_register_cell.md) -/

/-- R160. -/
def RegisterCell.setInput (w : Word) (c : RegisterCell) : RegisterCell := { c with queued := w }

/-- R161. -/
def RegisterCell.setChipSelect (l : Bit) (c : RegisterCell) : RegisterCell := { c with cs := l }

/-- R162: by itself it never stores. -/
def RegisterCell.setWriteEnable (l : Bit) (c : RegisterCell) : RegisterCell := { c with we := l }

/-- R163: ignored entirely while the write-enable is false; otherwise the clocked step R111, hard-wired to the rising
edge, with the action `data <- queued`. -/
def RegisterCell.setClock (level : Bit) (c : RegisterCell) : RegisterCell :=
  if c.we then
    clockedStep .risingEdge c.clock level
      (fun d => { d with clock := level })
      (fun d => { d with data := d.queued }) c
  else c

/-- R166: 0 if deselected, else the stored data. -/
def RegisterCell.read (c : RegisterCell) : Word := if c.cs then c.data else 0

/-- R171: a control word reaches a cell as chip-select, then write-enable, then clock (D13). -/
def RegisterCell.applyControl (w : ControlWord) (c : RegisterCell) : RegisterCell :=
  ((c.setChipSelect (controlCs w)).setWriteEnable (controlWe w)).setClock (controlClk w)

/-! ## Memory block (43_memory_block.md) -/

/-- R30: the construction constant `N`. -/
def MemoryBlock.n (b : MemoryBlock) : Nat := b.lines.length

/-- R36: the selected line. -/
def MemoryBlock.sel (b : MemoryBlock) : Option Nat := localLine b.base b.n b.addr

/-- R31, R172: the three selectors follow the selected line and keep their values where there is none; the two
demultiplexers are chip-selected exactly when some line is. -/
def MemoryBlock.pointRouters (b : MemoryBlock) : MemoryBlock :=
  match b.sel with
  | some i =>
    { b with
      controlDemux := { b.controlDemux with selector := i, cs := true }
      writeDemux := { b.writeDemux with selector := i, cs := true }
      readMux := { b.readMux with selector := i } }
  | none =>
    { b with
      controlDemux := { b.controlDemux with cs := false }
      writeDemux := { b.writeDemux with cs := false } }

/-- R172: the packed control word goes through the control demultiplexer to every line; the selected line receives it,
every other line the zeroed word. -/
def MemoryBlock.broadcastControl (b : MemoryBlock) : MemoryBlock :=
  let p := b.pointRouters
  let d := p.controlDemux.setInputWord (pack b.cs b.we b.clk)
  { p with controlDemux := d, lines := b.lines.mapIdx fun i c => c.applyControl (d.output i) }

/-- R173: the data word goes through the write demultiplexer to every line's queued input; the selected line receives it,
every other line 0 (D14). -/
def MemoryBlock.broadcastData (b : MemoryBlock) : MemoryBlock :=
  let p := b.pointRouters
  let d := p.writeDemux.setInputWord b.feed
  { p with writeDemux := d, lines := b.lines.mapIdx fun i c => c.setInput (d.output i) }

/-- R174. -/
def MemoryBlock.setChipSelect (l : Bit) (b : MemoryBlock) : MemoryBlock := { b with cs := l }.broadcastControl

/-- R175. -/
def MemoryBlock.setWriteEnable (l : Bit) (b : MemoryBlock) : MemoryBlock := { b with we := l }.broadcastControl

/-- R176. -/
def MemoryBlock.setClock (l : Bit) (b : MemoryBlock) : MemoryBlock := { b with clk := l }.broadcastControl

/-- R177: any address; the data word is not broadcast again. -/
def MemoryBlock.setAddress (a : Nat) (b : MemoryBlock) : MemoryBlock := { b with addr := a }.broadcastControl

/-- R178. -/
def MemoryBlock.setFeed (w : Word) (b : MemoryBlock) : MemoryBlock := { b with feed := w }.broadcastData

/-- R179: the read multiplexer selects the line, copies every line's output and is chip-selected. -/
def MemoryBlock.refreshReadMux (i : Nat) (b : MemoryBlock) : MemoryBlock :=
  { b with readMux := { inputs := b.lines.map RegisterCell.read, selector := i, cs := true } }

/-- R179: 0 if the block is deselected; a fault if no line is selected; else the selected line's output. The second
component is the block with its routers' hidden copies as R31 says they are whenever an operation has ended: the read
multiplexer's inputs refreshed, and the selectors and chip-selects following the selected line, which changes them only in the
first operation after construction (log entries 7 and 21). -/
def MemoryBlock.readWord (b : MemoryBlock) : Except Fault (Word × MemoryBlock) :=
  if b.cs then
    match b.sel with
    | none => .error (.selectorOutOfRange b.addr)
    | some i => .ok ((b.lines[i]?.getD RegisterCell.construct).read, b.pointRouters.refreshReadMux i)
  else .ok (0, b.pointRouters)

/-! ## Driver (44_memory_driver.md) -/

/-- R10: the block sizes `N_0 .. N_(B-1)`. -/
def Driver.sizes (d : Driver) : List Nat := d.blocks.map MemoryBlock.n

/-- R191: a setter fans out identically to every block. -/
def Driver.fanOut (f : MemoryBlock → MemoryBlock) (d : Driver) : Driver := { d with blocks := d.blocks.map f }

/-- R192. -/
def Driver.setChipSelect (l : Bit) (d : Driver) : Driver := d.fanOut (MemoryBlock.setChipSelect l)

/-- R193. -/
def Driver.setWriteEnable (l : Bit) (d : Driver) : Driver := d.fanOut (MemoryBlock.setWriteEnable l)

/-- R194: the global address, unchanged, goes to every block; it is not decoded here. -/
def Driver.setAddress (a : Nat) (d : Driver) : Driver := { d with addr := a }.fanOut (MemoryBlock.setAddress a)

/-- R195. -/
def Driver.setClock (l : Bit) (d : Driver) : Driver := d.fanOut (MemoryBlock.setClock l)

/-- R198. -/
def Driver.setFeed (w : Word) (d : Driver) : Driver := d.fanOut (MemoryBlock.setFeed w)

/-- R197: the owning block, or the fault. -/
def Driver.determineBlockIndex (a : Nat) (d : Driver) : Except Fault Nat :=
  match owningBlock d.sizes a with
  | some b => .ok b
  | none => .error (.addressOutOfRange a)

/-- R196: only the read is routed, to the single owning block; the decode comes before the block's chip-select test. -/
def Driver.readWord (d : Driver) : Except Fault (Word × Driver) :=
  match d.determineBlockIndex d.addr with
  | .error f => .error f
  | .ok b =>
    match (d.blocks[b]?.getD (MemoryBlock.construct 0 0)).readWord with
    | .error f => .error f
    | .ok (w, block) => .ok (w, { d with blocks := d.blocks.set b block })

/-! ## Memory controller (45_memory_controller.md) -/

/-- R40: the construction constant `core_count`. -/
def Controller.coreCount (k : Controller) : Nat := k.queue.length

/-- R40: the record of the core that has the bus (`focus < core_count` in every state a run reaches, log entry 15). -/
def Controller.focused (k : Controller) : QueueRecord := k.queue[k.focus]?.getD QueueRecord.construct

/-- R214 steps 1 and 2: chip-select, write-enable, address and data of the focused request, then the clock level (D18). -/
def Driver.applyRequest (q : QueueRecord) (level : Bit) (d : Driver) : Driver :=
  ((((d.setChipSelect q.cs).setWriteEnable q.we).setAddress q.addr).setFeed q.feed).setClock level

/-- R214: nothing on a re-assertion; on a rising change the request is applied and the response captured; on a falling
change the request is applied and the focus advances. -/
def Controller.setClock (level : Bit) (k : Controller) : Except Fault Controller :=
  if level = k.clock then .ok k
  else
    let d := k.driver.applyRequest k.focused level
    if level then
      match d.readWord with
      | .error f => .error f
      | .ok (w, d') =>
        .ok { k with
          driver := d'
          queue := k.queue.set k.focus { k.focused with response := w }
          clock := level }
    else .ok { k with driver := d, focus := (k.focus + 1) % k.coreCount, clock := level }

/-- R216: a per-core setter writes that core's record only. -/
def Controller.putRecord (c : Nat) (q : QueueRecord) (k : Controller) : Controller :=
  { k with queue := k.queue.set c q }

/-- R210 to R213, R222: act on the record of core `c`; a core id not below `core_count` is no operation. -/
def State.onRecord (s : State) (c : Nat) (go : QueueRecord → State) : Result State :=
  match s.ctl.queue[c]? with
  | some q => .next (go q)
  | none => .refused (.illFormed (.coreIdOutOfRange c))

/-! ## One line read by its address -/

/-- R60, R61: the word stored at an address of a block (`none` where no line has that address). -/
def MemoryBlock.dataAt (b : MemoryBlock) (a : Nat) : Option Word :=
  match localLine b.base b.n a with
  | some i => b.lines[i]?.map RegisterCell.data
  | none => none

/-- R60, R66: the word stored at a global address of a driver. -/
def Driver.dataAt (d : Driver) (a : Nat) : Option Word := d.blocks.findSome? fun b => b.dataAt a

/-! ## The end of a run -/

/-- R232, D20: the component state after a fault is unspecified: a free value, nothing constrains it (log entry 6). -/
opaque stateAfterFault : State → Fault → State

/-- R232, R241: the run's configuration after a fault: the status is faulted for ever, what earlier reads returned stays
returned, and every component is unspecified. -/
def State.afterFault (s : State) (f : Fault) : State :=
  { stateAfterFault s f with
    widths := s.widths
    fixture := s.fixture
    program := s.program
    returned := s.returned
    status := .faulted f }

end Sys2Proof.Machine
end

