-- ==== Sys2Proof/Machine/Bistables.lean ====
section
/-! DEFINITION. 40_bistables.md R113 to R129: the meanings of the operations on the four bistables. None can raise a fault. -/

namespace Sys2Proof.Machine

/-- R113 `SRL.set`: the word is stored immediately. -/
def execSrlSet (w : Word) (s : State) : Result State :=
  .next (s.putSrl (s.srl.set w))

/-- R114 `SRL.reset`: the zero value is stored. -/
def execSrlReset (s : State) : Result State :=
  .next (s.putSrl s.srl.reset)

/-- R116 `SRL.read`: returns the stored word. -/
def execSrlRead (s : State) : Result State :=
  .next (s.returning (.word s.srl.read))

/-- R117 `DFF.set_data`: the word waits in `direct_input`; nothing is stored. -/
def execDffSetData (w : Word) (s : State) : Result State :=
  .next (s.putDff (s.dff.setData w))

/-- R118 `DFF.set_clock`: the clocked step; when it fires `stored <- direct_input`. -/
def execDffSetClock (level : Bit) (s : State) : Result State :=
  .next (s.putDff (s.dff.setClock level))

/-- R119 `DFF.reset`: an asynchronous clear of the stored word and the queued input; `clock_state` is kept. -/
def execDffReset (s : State) : Result State :=
  .next (s.putDff s.dff.reset)

/-- R120 `DFF.read`: returns the stored word. -/
def execDffRead (s : State) : Result State :=
  .next (s.returning (.word s.dff.read))

/-- R121 `SRFF.set_set_queue`: the S input. -/
def execSrffSetSetQueue (level : Bit) (s : State) : Result State :=
  .next (s.putSrff (s.srff.setSetQueue level))

/-- R122 `SRFF.set_reset_queue`: the R input. -/
def execSrffSetResetQueue (level : Bit) (s : State) : Result State :=
  .next (s.putSrff (s.srff.setResetQueue level))

/-- R123 `SRFF.set_clock`: the clocked step with the table R124; both inputs asserted toggle. -/
def execSrffSetClock (level : Bit) (s : State) : Result State :=
  .next (s.putSrff (s.srff.setClock level))

/-- R125 `SRFF.read`: returns the stored bit. -/
def execSrffRead (s : State) : Result State :=
  .next (s.returning (.bit s.srff.read))

/-- R126 `TFF.set_input_queue`: the T input. -/
def execTffSetInputQueue (level : Bit) (s : State) : Result State :=
  .next (s.putTff (s.tff.setInputQueue level))

/-- R127 `TFF.set_clock`: the clocked step; when it fires with T asserted the stored bit inverts. -/
def execTffSetClock (level : Bit) (s : State) : Result State :=
  .next (s.putTff (s.tff.setClock level))

/-- R129 `TFF.read`: returns the stored bit. -/
def execTffRead (s : State) : Result State :=
  .next (s.returning (.bit s.tff.read))

end Sys2Proof.Machine
end

