-- ==== Sys2Proof/Machine/Controllers.lean ====
section
/-! DEFINITION. 45_memory_controller.md R210 to R215: the meanings of the operations on the round-robin controller. -/

namespace Sys2Proof.Machine

/-- R210 `CTL.set_chip_select`: core `c`'s queued chip-select. -/
def execCtlSetChipSelect (c : Nat) (level : Bit) (s : State) : Result State :=
  s.onRecord c fun q => s.putCtl (s.ctl.putRecord c { q with cs := level })

/-- R211 `CTL.set_write_enable`: core `c`'s queued write-enable. -/
def execCtlSetWriteEnable (c : Nat) (level : Bit) (s : State) : Result State :=
  s.onRecord c fun q => s.putCtl (s.ctl.putRecord c { q with we := level })

/-- R212 `CTL.set_address`: core `c`'s queued address, any value. -/
def execCtlSetAddress (c : Nat) (a : Nat) (s : State) : Result State :=
  s.onRecord c fun q => s.putCtl (s.ctl.putRecord c { q with addr := a })

/-- R213 `CTL.set_feed`: core `c`'s outbound data. -/
def execCtlSetFeed (c : Nat) (w : Word) (s : State) : Result State :=
  s.onRecord c fun q => s.putCtl (s.ctl.putRecord c { q with feed := w })

/-- R214 `CTL.set_clock`: the arbiter: apply, capture on the rising change, hand over on the falling one. -/
def execCtlSetClock (level : Bit) (s : State) : Result State :=
  orRaise (s.ctl.setClock level) s.putCtl

/-- R215 `CTL.read_response`: core `c`'s last captured response. -/
def execCtlReadResponse (c : Nat) (s : State) : Result State :=
  s.onRecord c fun q => s.returning (.word q.response)

end Sys2Proof.Machine
end

