-- ==== Sys2Proof/Machine/Drivers.lean ====
section
/-! DEFINITION. 44_memory_driver.md R192 to R199: the meanings of the operations on the multi-block driver. -/

namespace Sys2Proof.Machine

/-- R192 `DRV.set_chip_select`: broadcast to every block. -/
def execDrvSetChipSelect (level : Bit) (s : State) : Result State :=
  .next (s.putDrv (s.drv.setChipSelect level))

/-- R193 `DRV.set_write_enable`: broadcast to every block. -/
def execDrvSetWriteEnable (level : Bit) (s : State) : Result State :=
  .next (s.putDrv (s.drv.setWriteEnable level))

/-- R194 `DRV.set_address`: the driver keeps it and broadcasts it unchanged; never a fault. -/
def execDrvSetAddress (a : Nat) (s : State) : Result State :=
  .next (s.putDrv (s.drv.setAddress a))

/-- R195 `DRV.set_clock`: broadcast to every block. -/
def execDrvSetClock (level : Bit) (s : State) : Result State :=
  .next (s.putDrv (s.drv.setClock level))

/-- R196 `DRV.read_word`: routed to the owning block; `AddressOutOfRange` whatever the chip-select is. -/
def execDrvReadWord (s : State) : Result State :=
  orRaise s.drv.readWord fun r => (s.putDrv r.2).returning (.word r.1)

/-- R197 `DRV.determine_block_index`: the linear scan, a pure query on the topology. -/
def execDrvDetermineBlockIndex (a : Nat) (s : State) : Result State :=
  orRaise (s.drv.determineBlockIndex a) fun b => s.returning (.nat b)

/-- R198 `DRV.set_feed`: broadcast to every block. -/
def execDrvSetFeed (w : Word) (s : State) : Result State :=
  .next (s.putDrv (s.drv.setFeed w))

/-- R199 `DRV.address_width`: the construction constant of R39. -/
def execDrvAddressWidth (s : State) : Result State :=
  .next (s.returning (.nat s.drv.addressWidth))

end Sys2Proof.Machine
end

