-- ==== Sys2Proof/Machine/MemoryBlocks.lean ====
section
/-! DEFINITION. 43_memory_block.md R174 to R179: the meanings of the operations on a memory block. -/

namespace Sys2Proof.Machine

/-- R174 `BLK.set_chip_select`: the field is written and the control word re-broadcast. -/
def execBlkSetChipSelect (level : Bit) (s : State) : Result State :=
  .next (s.putBlk (s.blk.setChipSelect level))

/-- R175 `BLK.set_write_enable`: as R174; raised while the clock is high it can store (R267). -/
def execBlkSetWriteEnable (level : Bit) (s : State) : Result State :=
  .next (s.putBlk (s.blk.setWriteEnable level))

/-- R176 `BLK.set_clock`: as R174; the write happens here. -/
def execBlkSetClock (level : Bit) (s : State) : Result State :=
  .next (s.putBlk (s.blk.setClock level))

/-- R177 `BLK.set_address`: any address; the control word is re-broadcast, the data word is not. -/
def execBlkSetAddress (a : Nat) (s : State) : Result State :=
  .next (s.putBlk (s.blk.setAddress a))

/-- R178 `BLK.set_feed`: the data word is broadcast to every line. -/
def execBlkSetFeed (w : Word) (s : State) : Result State :=
  .next (s.putBlk (s.blk.setFeed w))

/-- R179 `BLK.read_word`: 0 if the block is deselected, `SelectorOutOfRange` if no line is selected. -/
def execBlkReadWord (s : State) : Result State :=
  orRaise s.blk.readWord fun r => (s.putBlk r.2).returning (.word r.1)

end Sys2Proof.Machine
end

