-- ==== Sys2Proof/Machine/RegisterCells.lean ====
section
/-! DEFINITION. 42_register_cell.md R160 to R166: the meanings of the operations on a register cell. None can raise a fault. -/

namespace Sys2Proof.Machine

/-- R160 `CELL.set_input`: the queued input. -/
def execCellSetInput (w : Word) (s : State) : Result State :=
  .next (s.putCell (s.cell.setInput w))

/-- R161 `CELL.set_chip_select`: gates the output only. -/
def execCellSetChipSelect (level : Bit) (s : State) : Result State :=
  .next (s.putCell (s.cell.setChipSelect level))

/-- R162 `CELL.set_write_enable`: gates whether a clock level is seen; by itself it stores nothing. -/
def execCellSetWriteEnable (level : Bit) (s : State) : Result State :=
  .next (s.putCell (s.cell.setWriteEnable level))

/-- R163 `CELL.set_clock`: ignored while the write-enable is false; a rising change stores the queued word. -/
def execCellSetClock (level : Bit) (s : State) : Result State :=
  .next (s.putCell (s.cell.setClock level))

/-- R166 `CELL.read`: 0 if deselected, else the stored data. -/
def execCellRead (s : State) : Result State :=
  .next (s.returning (.word s.cell.read))

end Sys2Proof.Machine
end

