-- ==== Sys2Proof/Machine/Routers.lean ====
section
/-! DEFINITION. 41_routers.md R140 to R149: the meanings of the operations on the multiplexer and the demultiplexer. -/

namespace Sys2Proof.Machine

/-- R140 `MUX.set_input_word`: loads an input; `SelectorOutOfRange` for an input that does not exist. -/
def execMuxSetInputWord (i : Nat) (w : Word) (s : State) : Result State :=
  orRaise (s.mux.setInputWord i w) s.putMux

/-- R141 `MUX.set_selector`: `SelectorOutOfRange` at the moment of selection. -/
def execMuxSetSelector (a : Nat) (s : State) : Result State :=
  orRaise (s.mux.setSelector a) s.putMux

/-- R142 `MUX.set_chip_select`: the chip-select; inputs and selector are kept. -/
def execMuxSetChipSelect (level : Bit) (s : State) : Result State :=
  .next (s.putMux (s.mux.setChipSelect level))

/-- R143 `MUX.is_narrow`: an advisory constant of the construction. -/
def execMuxIsNarrow (s : State) : Result State :=
  .next (s.returning (.bit (isNarrow s.mux.n)))

/-- R144 `MUX.read`: 0 if deselected, else the selected input. -/
def execMuxRead (s : State) : Result State :=
  .next (s.returning (.word s.mux.read))

/-- R145 `DMX.set_input_word`: the input word. -/
def execDmxSetInputWord (w : Word) (s : State) : Result State :=
  .next (s.putDmx (s.dmx.setInputWord w))

/-- R146 `DMX.set_chip_select`: the chip-select. -/
def execDmxSetChipSelect (level : Bit) (s : State) : Result State :=
  .next (s.putDmx (s.dmx.setChipSelect level))

/-- R147 `DMX.set_selector`: `SelectorOutOfRange` at the moment of selection. -/
def execDmxSetSelector (a : Nat) (s : State) : Result State :=
  orRaise (s.dmx.setSelector a) s.putDmx

/-- R148 `DMX.is_narrow`: an advisory constant of the construction. -/
def execDmxIsNarrow (s : State) : Result State :=
  .next (s.returning (.bit (isNarrow s.dmx.n)))

/-- R149 `DMX.read`: the output asked for; the index is checked before the chip-select. -/
def execDmxRead (i : Nat) (s : State) : Result State :=
  orRaise (s.dmx.read i) fun w => s.returning (.word w)

end Sys2Proof.Machine
end

