-- ==== Sys2Proof/Machine/Dispatch.lean ====
section
/-! DEFINITION. The dispatch: one arm for each operation of the opcode map (30_encoding.md R96), each one direct call of its
meaning. -/

namespace Sys2Proof.Machine

def exec (i : Instr) (s : State) : Host.Outcome State Fault Refusal :=
  match i with
  | .srlSet w => Sys2Proof.Machine.execSrlSet w s
  | .srlReset => Sys2Proof.Machine.execSrlReset s
  | .srlRead => Sys2Proof.Machine.execSrlRead s
  | .dffSetData w => Sys2Proof.Machine.execDffSetData w s
  | .dffSetClock level => Sys2Proof.Machine.execDffSetClock level s
  | .dffReset => Sys2Proof.Machine.execDffReset s
  | .dffRead => Sys2Proof.Machine.execDffRead s
  | .srffSetSetQueue level => Sys2Proof.Machine.execSrffSetSetQueue level s
  | .srffSetResetQueue level => Sys2Proof.Machine.execSrffSetResetQueue level s
  | .srffSetClock level => Sys2Proof.Machine.execSrffSetClock level s
  | .srffRead => Sys2Proof.Machine.execSrffRead s
  | .tffSetInputQueue level => Sys2Proof.Machine.execTffSetInputQueue level s
  | .tffSetClock level => Sys2Proof.Machine.execTffSetClock level s
  | .tffRead => Sys2Proof.Machine.execTffRead s
  | .muxSetInputWord idx w => Sys2Proof.Machine.execMuxSetInputWord idx w s
  | .muxSetSelector a => Sys2Proof.Machine.execMuxSetSelector a s
  | .muxSetChipSelect level => Sys2Proof.Machine.execMuxSetChipSelect level s
  | .muxIsNarrow => Sys2Proof.Machine.execMuxIsNarrow s
  | .muxRead => Sys2Proof.Machine.execMuxRead s
  | .dmxSetInputWord w => Sys2Proof.Machine.execDmxSetInputWord w s
  | .dmxSetChipSelect level => Sys2Proof.Machine.execDmxSetChipSelect level s
  | .dmxSetSelector a => Sys2Proof.Machine.execDmxSetSelector a s
  | .dmxIsNarrow => Sys2Proof.Machine.execDmxIsNarrow s
  | .dmxRead idx => Sys2Proof.Machine.execDmxRead idx s
  | .cellSetInput w => Sys2Proof.Machine.execCellSetInput w s
  | .cellSetChipSelect level => Sys2Proof.Machine.execCellSetChipSelect level s
  | .cellSetWriteEnable level => Sys2Proof.Machine.execCellSetWriteEnable level s
  | .cellSetClock level => Sys2Proof.Machine.execCellSetClock level s
  | .cellRead => Sys2Proof.Machine.execCellRead s
  | .blkSetChipSelect level => Sys2Proof.Machine.execBlkSetChipSelect level s
  | .blkSetWriteEnable level => Sys2Proof.Machine.execBlkSetWriteEnable level s
  | .blkSetClock level => Sys2Proof.Machine.execBlkSetClock level s
  | .blkSetAddress a => Sys2Proof.Machine.execBlkSetAddress a s
  | .blkSetFeed w => Sys2Proof.Machine.execBlkSetFeed w s
  | .blkReadWord => Sys2Proof.Machine.execBlkReadWord s
  | .drvSetChipSelect level => Sys2Proof.Machine.execDrvSetChipSelect level s
  | .drvSetWriteEnable level => Sys2Proof.Machine.execDrvSetWriteEnable level s
  | .drvSetAddress a => Sys2Proof.Machine.execDrvSetAddress a s
  | .drvSetClock level => Sys2Proof.Machine.execDrvSetClock level s
  | .drvReadWord => Sys2Proof.Machine.execDrvReadWord s
  | .drvDetermineBlockIndex a => Sys2Proof.Machine.execDrvDetermineBlockIndex a s
  | .drvSetFeed w => Sys2Proof.Machine.execDrvSetFeed w s
  | .drvAddressWidth => Sys2Proof.Machine.execDrvAddressWidth s
  | .ctlSetChipSelect c level => Sys2Proof.Machine.execCtlSetChipSelect c level s
  | .ctlSetWriteEnable c level => Sys2Proof.Machine.execCtlSetWriteEnable c level s
  | .ctlSetAddress c a => Sys2Proof.Machine.execCtlSetAddress c a s
  | .ctlSetFeed c w => Sys2Proof.Machine.execCtlSetFeed c w s
  | .ctlSetClock level => Sys2Proof.Machine.execCtlSetClock level s
  | .ctlReadResponse c => Sys2Proof.Machine.execCtlReadResponse c s

end Sys2Proof.Machine
end

