-- ==== Sys2Proof/Machine/Fetch.lean ====
section
/-! DEFINITION. Where a step takes its operation from: the caller's remaining list (10_state.md R50, 70_reset_and_hazards.md
R277). The head record is decoded, checked against the parameters and the fixture (30_encoding.md R94 to R98), and the
rest of the list stays. The list is no hardware state and no operation can reach it (R74). -/

namespace Sys2Proof.Machine

/-- What the caller's list gives the next step. -/
inductive Fetched where
  /-- R277: the list is exhausted. -/
  | idle
  /-- R98: the head is refused before it reaches the hardware. -/
  | refusal (r : Refusal)
  /-- The head is an operation; `rest` is the list after it. -/
  | operation (i : Instr) (rest : List IssuedRecord)
deriving DecidableEq, Repr

/-- R95, R97, R98: decode a record and check it against the parameters, the core count and the fixture. -/
def acceptRecord (s : State) (r : Record) : Except Refusal Instr :=
  match decodeRecord r with
  | .error e => .error (.reservedRecord e)
  | .ok i =>
    match checkOperation s.widths s.ctl.coreCount s.fixture i with
    | .error e => .error (.illFormed e)
    | .ok _ => .ok i

/-- R94: the sizes of the fixture's routers, those inside its blocks included (R31). -/
def State.routerSizes (s : State) : List Nat :=
  match s.fixture with
  | .mux => [s.mux.n]
  | .dmx => [s.dmx.n]
  | .blk => [s.blk.n]
  | .drv => s.drv.sizes
  | .ctl => s.ctl.driver.sizes
  | .srl | .dff | .srff | .tff | .cell => []

/-- R94, R97: the fixture's configuration has a packed form; only a controller has a core count (log entry 25). -/
def State.hasPackedForm (s : State) : Bool :=
  Sys2Proof.hasPackedForm s.widths (if s.fixture = .ctl then s.ctl.coreCount else 0) s.routerSizes

/-- R94: an issued record, refused where it is packed and the configuration has no packed form. -/
def acceptIssued (s : State) (x : IssuedRecord) : Except Refusal Instr :=
  match x with
  | .tuple r => acceptRecord s r
  | .packed w => if s.hasPackedForm then acceptRecord s (unpackRecord w) else .error .noPackedForm

/-- R50, R277: the operation at the head of the caller's list. -/
def fetch (s : State) : Fetched :=
  match s.program with
  | [] => .idle
  | x :: rest =>
    match acceptIssued s x with
    | .error e => .refusal e
    | .ok i => .operation i rest

/-- R97: the caller issues a record next, against the fixture of the record's kind where it names one (log entry 4). -/
def State.issue (s : State) (x : IssuedRecord) : State :=
  { s with
    program := x :: s.program
    fixture := (kindOfCode x.record.kind).getD s.fixture }

end Sys2Proof.Machine
end

