-- ==== Sys2Proof/Machine/Step.lean ====
section
/-! DEFINITION. One step of a run: the next operation of the caller's list takes effect, completely and alone (00_scope.md
R4, 20_memory.md R70). -/

namespace Sys2Proof.Machine

/-- R4, R277: a faulted run has no later operation (R232); an exhausted list changes nothing, for the hardware never changes
state between operations (R265, log entry 5); a refused record never reaches the hardware (R98); an operation has its
effect, the list having moved past it. -/
def step (s : State) : Host.Outcome State Fault Refusal :=
  match s.status with
  | .faulted f => raise f
  | .noFault =>
    match fetch s with
    | .idle => .next s
    | .refusal r => .refused r
    | .operation i rest => exec i (s.putProgram rest)

/-- `s` with the packed record `w` of `nbits` bits issued next, against the fixture of its kind (R94, R97, log entry 4). -/
def State.withFetchWord (s : State) (nbits w : Nat) : State :=
  s.issue (.packed (BitVec.ofNat 64 (w % 2 ^ nbits)))

end Sys2Proof.Machine
end

