-- ==== Sys2Proof/Machine/Flat.lean ====
section
/-! DEFINITION. The flat form of a memory block (43_memory_block.md R180): the same block without lines' gating flags and
without routers. It is a second description the structural form of Ops.lean is claimed equal to; `exec` does not use it. -/

namespace Sys2Proof.Machine

/-- R180: `(cs, we, clk, addr, feed, data[N], queued[N], lclk[N])`. -/
structure FlatBlock where
  base : Nat
  cs : Bit
  we : Bit
  clk : Bit
  addr : Nat
  feed : Word
  data : List Word
  queued : List Word
  lclk : List Bit
deriving DecidableEq, Repr

/-- R36, R180. -/
def FlatBlock.sel (b : FlatBlock) : Option Nat := localLine b.base b.data.length b.addr

/-- R180: what the control broadcast does to `data` and `lclk`. -/
def FlatBlock.touch (b : FlatBlock) : FlatBlock :=
  match b.sel with
  | none => b
  | some i =>
    if b.we && (b.lclk[i]?.getD false != b.clk) then
      { b with
        data := if b.clk then b.data.set i (b.queued[i]?.getD 0) else b.data
        lclk := b.lclk.set i b.clk }
    else b

/-- R180: `set_chip_select`. -/
def FlatBlock.setChipSelect (l : Bit) (b : FlatBlock) : FlatBlock := { b with cs := l }.touch

/-- R180: `set_write_enable`. -/
def FlatBlock.setWriteEnable (l : Bit) (b : FlatBlock) : FlatBlock := { b with we := l }.touch

/-- R180: `set_clock`. -/
def FlatBlock.setClock (l : Bit) (b : FlatBlock) : FlatBlock := { b with clk := l }.touch

/-- R180: `set_address`. -/
def FlatBlock.setAddress (a : Nat) (b : FlatBlock) : FlatBlock := { b with addr := a }.touch

/-- R180: `set_feed`. -/
def FlatBlock.setFeed (w : Word) (b : FlatBlock) : FlatBlock :=
  { b with feed := w, queued := b.queued.mapIdx fun i _ => if b.sel = some i then w else 0 }

/-- R180: `read_word`. -/
def FlatBlock.readWord (b : FlatBlock) : Except Fault Word :=
  if b.cs then
    match b.sel with
    | none => .error (.selectorOutOfRange b.addr)
    | some i => .ok (b.data[i]?.getD 0)
  else .ok 0

/-- R180: one operation of a block on its flat form, with the values it returns; the operations of other kinds are none of
a block's. -/
def FlatBlock.apply (i : Instr) (b : FlatBlock) : Except Fault (FlatBlock × List Value) :=
  match i with
  | .blkSetChipSelect l => .ok (b.setChipSelect l, [])
  | .blkSetWriteEnable l => .ok (b.setWriteEnable l, [])
  | .blkSetClock l => .ok (b.setClock l, [])
  | .blkSetAddress a => .ok (b.setAddress a, [])
  | .blkSetFeed w => .ok (b.setFeed w, [])
  | .blkReadWord =>
    match b.readWord with
    | .ok w => .ok (b, [.word w])
    | .error f => .error f
  | _ => .ok (b, [])

/-- R180: an operation sequence on the flat form. -/
def FlatBlock.applyAll : List Instr → FlatBlock → Except Fault (FlatBlock × List Value)
  | [], b => .ok (b, [])
  | i :: rest, b =>
    match b.apply i with
    | .error f => .error f
    | .ok (b', vs) =>
      match FlatBlock.applyAll rest b' with
      | .error f => .error f
      | .ok (b'', vs') => .ok (b'', vs ++ vs')

/-- R180: the flat form of a block. -/
def MemoryBlock.flat (b : MemoryBlock) : FlatBlock where
  base := b.base
  cs := b.cs
  we := b.we
  clk := b.clk
  addr := b.addr
  feed := b.feed
  data := b.lines.map RegisterCell.data
  queued := b.lines.map RegisterCell.queued
  lclk := b.lines.map RegisterCell.clock

end Sys2Proof.Machine
end

