-- ==== Sys2Proof/Machine/Pseudo.lean ====
section
/-! DEFINITION. Operation sequences: the pseudo-operations of 30_encoding.md R101, which are the read and write primitives
of 20_memory.md R76 to R78, and the effect of a sequence of operations one after the other (R70). -/

namespace Sys2Proof.Machine

/-- R70: the operations take effect in the order issued; the first fault or refusal ends the sequence. -/
def execAll : List Instr → State → Result State
  | [], s => .next s
  | i :: rest, s =>
    match exec i s with
    | .next t => execAll rest t
    | .fault f => .fault f
    | .refused r => .refused r

/-- R53: the clock operation of a component kind, where it has one. -/
def clockOf : Kind → Option (Bit → Instr)
  | .srl => none
  | .dff => some .dffSetClock
  | .srff => some .srffSetClock
  | .tff => some .tffSetClock
  | .mux => none
  | .dmx => none
  | .cell => some .cellSetClock
  | .blk => some .blkSetClock
  | .drv => some .drvSetClock
  | .ctl => some .ctlSetClock

/-- R16, R101: `X.pulse()`, one full clock pulse. -/
def pulse (k : Kind) : List Instr :=
  match clockOf k with
  | some clock => [clock true, clock false]
  | none => []

/-- R101, R77: `X.write(A, W)` for a block. -/
def blkWrite (a : Nat) (w : Word) : List Instr :=
  [.blkSetWriteEnable true, .blkSetAddress a, .blkSetFeed w, .blkSetClock true, .blkSetClock false,
   .blkSetWriteEnable false]

/-- R101, R77: `X.write(A, W)` for a driver. -/
def drvWrite (a : Nat) (w : Word) : List Instr :=
  [.drvSetWriteEnable true, .drvSetAddress a, .drvSetFeed w, .drvSetClock true, .drvSetClock false,
   .drvSetWriteEnable false]

/-- R101, R76: `X.load(A)` for a block. -/
def blkLoad (a : Nat) : List Instr := [.blkSetChipSelect true, .blkSetAddress a, .blkReadWord]

/-- R101, R76: `X.load(A)` for a driver. -/
def drvLoad (a : Nat) : List Instr := [.drvSetChipSelect true, .drvSetAddress a, .drvReadWord]

/-- R101, R78: `CTL.stage_write(c, A, W)`. -/
def stageWrite (c : Nat) (a : Nat) (w : Word) : List Instr :=
  [.ctlSetWriteEnable c true, .ctlSetAddress c a, .ctlSetFeed c w]

/-- R101, R78: `CTL.stage_read(c, A)`. -/
def stageRead (c : Nat) (a : Nat) : List Instr :=
  [.ctlSetChipSelect c true, .ctlSetWriteEnable c false, .ctlSetAddress c a]

/-- R182: the source's write and read round trip on a block. -/
def blkRoundTrip (a : Nat) (w : Word) : List Instr :=
  [.blkSetWriteEnable true, .blkSetChipSelect false, .blkSetAddress a, .blkSetFeed w, .blkSetClock true,
   .blkSetClock false, .blkSetChipSelect true, .blkSetWriteEnable false, .blkReadWord]

end Sys2Proof.Machine
end

