-- ==== Sys2Proof/Safety.lean ====
section
/-! DEFINITION. What counts as a safe run and as a legal state, in the terms the statements use: the invariants the spec
gives the components (10_state.md R12, R25, R26, R31, R37 to R40; 43_memory_block.md R184; 44_memory_driver.md R190, R191)
and a run's configuration after an operation, its faults included (60_exceptions.md R232). -/

namespace Sys2Proof.Machine

/-! ## Blocks -/

/-- R37: a line's gating flags are those of the block for the selected line and false for every other. -/
abbrev MemoryBlock.Gated (b : MemoryBlock) : Prop :=
  ∀ i, (h : i < b.lines.length) →
    b.lines[i].cs = (decide (b.sel = some i) && b.cs) ∧ b.lines[i].we = (decide (b.sel = some i) && b.we)

/-- R184: while the block is write-enabled, the selected line's clock is the block's. -/
abbrev MemoryBlock.ClockTracked (b : MemoryBlock) : Prop :=
  ∀ i, (h : i < b.lines.length) → b.sel = some i → b.we = true → b.lines[i].clock = b.clk

/-- R31: what the routers hold whenever an operation of the block has ended: copies of the block's fields, the two
demultiplexers chip-selected exactly when some line is. -/
abbrev MemoryBlock.RoutersCopy (b : MemoryBlock) : Prop :=
  b.controlDemux.input = pack b.cs b.we b.clk ∧ b.writeDemux.input = b.feed ∧
  b.controlDemux.cs = b.sel.isSome ∧ b.writeDemux.cs = b.sel.isSome ∧
  (∀ i, i < b.lines.length → b.sel = some i →
    b.controlDemux.selector = i ∧ b.writeDemux.selector = i ∧ b.readMux.selector = i)

/-- R31, R260: what the routers hold after construction and ever after: the copies of R31, but that a demultiplexer's
chip-select may still be false before the block's first operation (log entry 7). -/
abbrev MemoryBlock.RoutersFollow (b : MemoryBlock) : Prop :=
  b.controlDemux.input = pack b.cs b.we b.clk ∧ b.writeDemux.input = b.feed ∧
  (b.controlDemux.cs = true → b.sel.isSome = true) ∧ (b.writeDemux.cs = true → b.sel.isSome = true) ∧
  (∀ i, i < b.lines.length → b.sel = some i →
    b.controlDemux.selector = i ∧ b.writeDemux.selector = i ∧ b.readMux.selector = i)

/-- R10, R31: the block has lines, and its three routers are sized to it with their selectors in range. -/
abbrev MemoryBlock.Sized (b : MemoryBlock) : Prop :=
  b.controlDemux.n = b.n ∧ b.writeDemux.n = b.n ∧ b.readMux.n = b.n ∧
  b.controlDemux.selector < b.n ∧ b.writeDemux.selector < b.n ∧ b.readMux.selector < b.n

/-- R12: the words of a line are below `2^WORD_BITS`. -/
abbrev RegisterCell.InRange (p : Widths) (c : RegisterCell) : Prop :=
  fits p.wordBits c.queued ∧ fits p.wordBits c.data

/-- R12: the words, the address and the routers' selectors of a block lie in their types. -/
abbrev MemoryBlock.InRange (p : Widths) (b : MemoryBlock) : Prop :=
  fits p.addrBits b.addr ∧ fits p.addrBits b.controlDemux.selector ∧ fits p.addrBits b.writeDemux.selector ∧
  fits p.addrBits b.readMux.selector ∧ fits p.wordBits b.feed ∧ fits p.wordBits b.writeDemux.input ∧
  (∀ c ∈ b.lines, c.InRange p) ∧ (∀ w ∈ b.readMux.inputs, fits p.wordBits w)

/-! ## Drivers: the memory's layout -/

/-- R66, R190: the blocks lie one after the other from `base` on, without a hole or an overlap. -/
def contiguousFrom : Nat → List MemoryBlock → Bool
  | _, [] => true
  | base, b :: rest => decide (b.base = base) && contiguousFrom (base + b.n) rest

/-- R66: the form of a driver's memory: one contiguous address space from global address 0. Each line is one register cell
of its block, so that equal memories are equal lists (log entry 10). -/
def Memory.wf (blocks : List MemoryBlock) : Bool := contiguousFrom 0 blocks

/-- R38, R191: the blocks agree on everything the driver fans out, and on the driver's address. -/
abbrev Driver.Uniform (d : Driver) : Prop :=
  ∀ b ∈ d.blocks, b.addr = d.addr ∧
    ∀ b' ∈ d.blocks, b'.cs = b.cs ∧ b'.we = b.we ∧ b'.clk = b.clk ∧ b'.feed = b.feed

/-- R39, R66, R191: the layout a driver is constructed with, and what its fan-out keeps. -/
abbrev Driver.Laid (d : Driver) : Prop :=
  Memory.wf d.blocks = true ∧ d.Uniform ∧ d.addressWidth = ceilLog2 (totalLines d.sizes)

/-- R76, R77: every block's clock is low. -/
abbrev Driver.ClockLow (d : Driver) : Prop := ∀ b ∈ d.blocks, b.clk = false

/-! ## States -/

/-- Every memory block of the machine. -/
def State.blocks (s : State) : List MemoryBlock := s.blk :: (s.drv.blocks ++ s.ctl.driver.blocks)

/-- R37 for every block. -/
abbrev State.LinesGated (s : State) : Prop := ∀ b ∈ s.blocks, b.Gated

/-- R184 for every block. -/
abbrev State.ClocksTracked (s : State) : Prop := ∀ b ∈ s.blocks, b.ClockTracked

/-- A block keeps the copies of R31, place by place in a list of blocks. -/
abbrev CopiesKept (before after : List MemoryBlock) : Prop :=
  ∀ (k : Nat) (b : MemoryBlock), before[k]? = some b → b.RoutersCopy → ∃ b', after[k]? = some b' ∧ b'.RoutersCopy

/-- R31, R260 for every block. -/
abbrev State.RoutersFollow (s : State) : Prop := ∀ b ∈ s.blocks, b.RoutersFollow

/-- R38, R39, R66 for both drivers. -/
abbrev State.DriversLaid (s : State) : Prop := s.drv.Laid ∧ s.ctl.driver.Laid

/-- R214 step 2: the driver's blocks stand at the controller's clock level. -/
abbrev State.BusClocked (s : State) : Prop := ∀ b ∈ s.ctl.driver.blocks, b.clk = s.ctl.clock

/-- R25, R26, R31, R40: every selector is below its router's `N`, and the focus is a core. -/
abbrev State.SelectorsInRange (s : State) : Prop :=
  s.mux.selector < s.mux.n ∧ s.dmx.selector < s.dmx.n ∧ (∀ b ∈ s.blocks, b.Sized) ∧ s.ctl.focus < s.ctl.coreCount

/-- R12: the fields of a queue record lie in their types. -/
abbrev QueueRecord.InRange (p : Widths) (q : QueueRecord) : Prop :=
  fits p.addrBits q.addr ∧ fits p.wordBits q.feed ∧ fits p.wordBits q.response

/-- R12: every `Word` and every `Sel` of the machine lies in its type. -/
abbrev State.ValuesInRange (s : State) : Prop :=
  fits s.widths.wordBits s.srl.stored ∧
  fits s.widths.wordBits s.dff.stored ∧ fits s.widths.wordBits s.dff.directInput ∧
  (∀ w ∈ s.mux.inputs, fits s.widths.wordBits w) ∧ fits s.widths.wordBits s.dmx.input ∧
  fits s.widths.addrBits s.mux.selector ∧ fits s.widths.addrBits s.dmx.selector ∧
  s.cell.InRange s.widths ∧ (∀ b ∈ s.blocks, b.InRange s.widths) ∧
  fits s.widths.addrBits s.drv.addr ∧ fits s.widths.addrBits s.ctl.driver.addr ∧
  (∀ q ∈ s.ctl.queue, q.InRange s.widths)

/-- Everything the spec says holds after construction and after every operation. -/
abbrev State.Legal (s : State) : Prop :=
  s.LinesGated ∧ s.ClocksTracked ∧ s.RoutersFollow ∧ s.DriversLaid ∧ s.BusClocked ∧ s.SelectorsInRange ∧
  s.ValuesInRange

/-! ## What the broadcasts make of a block -/

/-- R163, R171, R172: a line after a control broadcast, from the line before it, whether it is the selected one, and the
block's three flags. The selected line takes the flags; write-enabled it accepts the clock level and stores its queued word
on a rise. Every other line receives the zeroed word: deselected, non-writable, its clock level ignored. -/
def lineAfterControl (selected : Bool) (cs we clk : Bit) (c : RegisterCell) : RegisterCell :=
  if selected = false then { c with cs := false, we := false }
  else if we = false then { c with cs := cs, we := false }
  else if clk = true ∧ c.clock = false then ⟨clk, c.queued, cs, true, c.queued⟩
  else ⟨clk, c.queued, cs, true, c.data⟩

/-- R172: `after` is `want` (a block with one field just written) after its control broadcast, the routers left out. -/
def MemoryBlock.ControlBroadcastOf (want after : MemoryBlock) : Prop :=
  after.base = want.base ∧ after.cs = want.cs ∧ after.we = want.we ∧ after.clk = want.clk ∧ after.addr = want.addr ∧
  after.feed = want.feed ∧ after.lines.length = want.lines.length ∧
  ∀ (i : Nat) (c : RegisterCell), want.lines[i]? = some c →
    after.lines[i]? = some (lineAfterControl (decide (want.sel = some i)) want.cs want.we want.clk c)

/-- R173: `after` is `want` (a block whose feed was just written) after its data broadcast, the routers left out. -/
def MemoryBlock.DataBroadcastOf (want after : MemoryBlock) : Prop :=
  after.base = want.base ∧ after.cs = want.cs ∧ after.we = want.we ∧ after.clk = want.clk ∧ after.addr = want.addr ∧
  after.feed = want.feed ∧ after.lines.length = want.lines.length ∧
  ∀ (i : Nat) (c : RegisterCell), want.lines[i]? = some c →
    after.lines[i]? = some { c with queued := if want.sel = some i then want.feed else 0 }

/-! ## What an operation reads and what a caller observes -/

/-- R14, R65: the operations that return a value. -/
def isRead : Instr → Bool
  | .srlRead | .dffRead | .srffRead | .tffRead | .muxIsNarrow | .muxRead | .dmxIsNarrow | .dmxRead _ | .cellRead
  | .blkReadWord | .drvReadWord | .drvDetermineBlockIndex _ | .drvAddressWidth | .ctlReadResponse _ => true
  | .srlSet _ | .srlReset | .dffSetData _ | .dffSetClock _ | .dffReset | .srffSetSetQueue _ | .srffSetResetQueue _
  | .srffSetClock _ | .tffSetInputQueue _ | .tffSetClock _ | .muxSetInputWord _ _ | .muxSetSelector _
  | .muxSetChipSelect _ | .dmxSetInputWord _ | .dmxSetChipSelect _ | .dmxSetSelector _ | .cellSetInput _
  | .cellSetChipSelect _ | .cellSetWriteEnable _ | .cellSetClock _ | .blkSetChipSelect _ | .blkSetWriteEnable _
  | .blkSetClock _ | .blkSetAddress _ | .blkSetFeed _ | .drvSetChipSelect _ | .drvSetWriteEnable _ | .drvSetAddress _
  | .drvSetClock _ | .drvSetFeed _ | .ctlSetChipSelect _ _ | .ctlSetWriteEnable _ _ | .ctlSetAddress _ _
  | .ctlSetFeed _ _ | .ctlSetClock _ => false

/-- R31, R65: a block without the copies in its three routers, which no operation exposes. -/
def MemoryBlock.hideRouters (b : MemoryBlock) : MemoryBlock :=
  { b with controlDemux := ⟨0, 0, 0, false⟩, writeDemux := ⟨0, 0, 0, false⟩, readMux := ⟨[], 0, false⟩ }

/-- R65: what a later operation can observe of a state: everything but the returned values and the copies in
the blocks' routers. -/
def State.observable (s : State) : State :=
  { s with
    returned := []
    blk := s.blk.hideRouters
    drv := { s.drv with blocks := s.drv.blocks.map MemoryBlock.hideRouters }
    ctl := { s.ctl with driver :=
      { s.ctl.driver with blocks := s.ctl.driver.blocks.map MemoryBlock.hideRouters } } }

/-! ## Two more descriptions of the same hardware -/

/-- R28: the bistable a register cell owns. -/
def RegisterCell.bistable (c : RegisterCell) : ClockedSetResetLatch := ⟨c.data, c.queued, c.clock, .risingEdge⟩

/-- R201: the driver operations a flat memory has too: the five setters and the read. -/
def flatMemoryOp : Instr → Option Instr
  | .drvSetChipSelect l => some (.blkSetChipSelect l)
  | .drvSetWriteEnable l => some (.blkSetWriteEnable l)
  | .drvSetAddress a => some (.blkSetAddress a)
  | .drvSetClock l => some (.blkSetClock l)
  | .drvSetFeed w => some (.blkSetFeed w)
  | .drvReadWord => some .blkReadWord
  | _ => none

/-- R201: each driver operation with the block operation of the same name. -/
abbrev SameOperations (drvOps blkOps : List Instr) : Prop := drvOps.map flatMemoryOp = blkOps.map some

/-! ## Runs -/

/-- R16, R101: `k` full clock pulses of the controller. -/
def controllerPulses (k : Nat) : List Instr := (List.replicate k (pulse .ctl)).flatten

/-- R232: the run's configuration after one step. A fault is recorded and never cleared; a refused record is no transition. -/
def advance (s : State) : State :=
  match step s with
  | .next t => t
  | .fault f => match s.status with
    | .noFault => s.afterFault f
    | .faulted _ => s
  | .refused _ => s

/-- R277: a run of `k` operations is successful when no operation faults and none is refused. -/
def RunsSafely (k : Nat) (s : State) : Prop := ∃ t, Host.Core.run Sys2Proof.core k s = .next t

end Sys2Proof.Machine
end

