-- ==== Sys2Proof/Certificates/Slice0/Obligations.lean ====
section
/-! DEFINITION. The statements for the provers. Each docstring names the rules of spec/ it formalises; OBLIGATIONS.json gives
each its number. An equation `exec i s = .next t` says that the operation completes and, since `t` is written out, what it
leaves unchanged. -/

open Sys2Proof Sys2Proof.Machine

/-! ## Records -/

/-- 95_test_vectors.md V43 and V44: the records written out there stand for the operations named there, or are reserved. -/
def Obligations.WrittenOutRecordsDecode : Prop :=
  decodeWord 0x1000000000000042 = .ok (.srlSet 0x42) ∧
  decodeWord 0x2100000000000001 = .ok (.dffSetClock true) ∧
  decodeWord 0x3000000000000001 = .ok (.srffSetSetQueue true) ∧
  decodeWord 0x4200000000000000 = .ok .tffRead ∧
  decodeWord 0x5000000200000099 = .ok (.muxSetInputWord 2 0x99) ∧
  decodeWord 0x6400000300000000 = .ok (.dmxRead 3) ∧
  decodeWord 0x7300000000000001 = .ok (.cellSetClock true) ∧
  decodeWord 0x8300000000000003 = .ok (.blkSetAddress 3) ∧
  decodeWord 0x9200000000000400 = .ok (.drvSetAddress 1024) ∧
  decodeWord 0xA300000100000099 = .ok (.ctlSetFeed 1 0x99) ∧
  decodeWord 0xA500000100000000 = .ok (.ctlReadResponse 1) ∧
  decodeWord 0x0000000000000000 = .error (.reservedOpcode 0 0) ∧
  decodeWord 0x1300000000000000 = .error (.reservedOpcode 1 3) ∧
  decodeWord 0xB000000000000000 = .error (.reservedOpcode 11 0) ∧
  decodeWord 0x1100000000000001 = .error (.unusedSecondOperand 1) ∧
  decodeWord 0x2100000000000002 = .error (.bitTooWide 2)

/-- R93, R94: decoding the packed record of an operation whose operands fit the record's fields gives the operation back. -/
def Obligations.PackedRecordDecodesToItsOperation : Prop :=
  ∀ i : Instr, (encodeRecord i).Packable → decodeWord (encodeWord i) = .ok i

/-- R94, R98: a record that decodes is the packed record of the operation it decodes to; no two records stand for one
operation, and no bit of a record is dropped. -/
def Obligations.DecodedOperationEncodesToItsRecord : Prop :=
  ∀ (w : BitVec 64) (i : Instr), decodeWord w = .ok i → encodeWord i = w

/-- R94, R96, R98: the decoder accepts exactly the records that match a row of the opcode table, and gives the operation of
that row. -/
def Obligations.DecoderFollowsTheOpcodeTable : Prop :=
  ∀ w : BitVec 64,
    (∀ i, decodeWord w = .ok i → ∃ row ∈ opcodeTable, row.mnemonic = i.mnemonic ∧ w &&& row.mask = row.pattern) ∧
    (∀ row ∈ opcodeTable, w &&& row.mask = row.pattern → ∃ i, decodeWord w = .ok i ∧ i.mnemonic = row.mnemonic)

/-- R95, R98, R222 (log entries 3 and 14): which operands lie in their types: a `Word` below `2^WORD_BITS`, a `Sel` in the
second place below `2^ADDR_BITS`, an index in the first place below `2^min(ADDR_BITS, 24)`, a core id below `core_count`.
Operations that take none of these are well formed against their own fixture, and no operation is against another (R97). -/
def Obligations.OperandsLieInTheirTypes : Prop :=
  ∀ (p : Widths) (n : Nat) (k : Kind) (i : Instr),
    i.WellFormed p n k = true ↔ i.kind = k ∧
      match i with
      | .srlSet w | .dffSetData w | .dmxSetInputWord w | .cellSetInput w | .blkSetFeed w | .drvSetFeed w =>
        w < 2 ^ p.wordBits
      | .muxSetSelector a | .dmxSetSelector a | .blkSetAddress a | .drvSetAddress a
      | .drvDetermineBlockIndex a => a < 2 ^ p.addrBits
      | .dmxRead a => a < 2 ^ min p.addrBits 24
      | .muxSetInputWord a w => a < 2 ^ min p.addrBits 24 ∧ w < 2 ^ p.wordBits
      | .ctlSetChipSelect c _ | .ctlSetWriteEnable c _ | .ctlReadResponse c => c < n
      | .ctlSetAddress c a => c < n ∧ a < 2 ^ p.addrBits
      | .ctlSetFeed c w => c < n ∧ w < 2 ^ p.wordBits
      | _ => True

/-- R94: which configurations have a packed form (for the fixture's parameters, log entry 25); in one that has it every well
formed operation fits its packed record and, issued as that record, is what the next step runs; in one that has none a packed
record is refused. -/
def Obligations.PackedFormHoldsEveryWellFormedOperation : Prop :=
  ∀ s : State,
    (s.hasPackedForm = true ↔ s.widths.wordBits ≤ 32 ∧ s.widths.addrBits ≤ 32 ∧
      match s.fixture with
      | .mux => s.mux.inputs.length ≤ 2 ^ 24
      | .dmx => s.dmx.n ≤ 2 ^ 24
      | .blk => s.blk.lines.length ≤ 2 ^ 24
      | .drv => ∀ b ∈ s.drv.blocks, b.lines.length ≤ 2 ^ 24
      | .ctl => s.ctl.queue.length ≤ 2 ^ 24 ∧ ∀ b ∈ s.ctl.driver.blocks, b.lines.length ≤ 2 ^ 24
      | .srl | .dff | .srff | .tff | .cell => True) ∧
    (∀ i : Instr, s.hasPackedForm = true → i.WellFormed s.widths s.ctl.queue.length s.fixture = true →
      (encodeRecord i).Packable ∧ decodeWord (encodeWord i) = .ok i ∧
      (s.status = .noFault → step (s.issue (.packed (encodeWord i))) = exec i s)) ∧
    (∀ w rest, s.status = .noFault → s.program = .packed w :: rest → s.hasPackedForm = false →
      step s = .refused .noPackedForm)

/-- R94, R98, R238 (the caller's list is the model's, log entries 4 and 9): with no fault raised, a step is refused exactly
when the record at the head of the caller's list is no operation: it is packed where the configuration has no packed form, it
does not decode, or it decodes to an operation that is not well formed against this fixture and these parameters. -/
def Obligations.StepRefusesExactlyTheReservedRecords : Prop :=
  ∀ (s : State) (x : IssuedRecord) (rest : List IssuedRecord), s.status = .noFault → s.program = x :: rest →
    ((∃ e, step s = .refused e) ↔
      (s.hasPackedForm = false ∧ ∃ w, x = .packed w) ∨
      (∃ e, decodeRecord x.record = .error e) ∨
      (∃ i, decodeRecord x.record = .ok i ∧ i.WellFormed s.widths s.ctl.queue.length s.fixture = false))

/-- R4, R50, R93, R94 (the caller's list is the model's, log entry 4): when the record at the head of the caller's list, a
tuple or, in a configuration with a packed form, a packed record, decodes to an operation that is well formed against the
fixture and the parameters, the step is that operation on the state whose list has moved past it. -/
def Obligations.StepRunsTheDecodedOperation : Prop :=
  ∀ (s : State) (x : IssuedRecord) (rest : List IssuedRecord) (i : Instr), s.status = .noFault → s.program = x :: rest →
    (∀ w, x = .packed w → s.hasPackedForm = true) → decodeRecord x.record = .ok i →
    i.WellFormed s.widths s.ctl.queue.length s.fixture = true → step s = exec i { s with program := rest }

/-! ## Edges and control words -/

/-- R110: the edge predicate is its definition, case by case. -/
def Obligations.EdgePredicateFires : Prop :=
  ∀ (old new : Bit) (mode : TriggerMode),
    fires old new mode = true ↔
      old ≠ new ∧ (mode = .bothEdges ∨ (mode = .risingEdge ∧ new = true) ∨ (mode = .fallingEdge ∧ new = false))

/-- R90, R170: the control word is `cs + 2*we + 4*clk`, and its three bits read back as the three flags. -/
def Obligations.ControlWordIsPacked : Prop :=
  ∀ cs we clk : Bit, (pack cs we clk).toNat = cs.toNat + 2 * we.toNat + 4 * clk.toNat ∧
    controlCs (pack cs we clk) = cs ∧ controlWe (pack cs we clk) = we ∧ controlClk (pack cs we clk) = clk

/-! ## Bistables -/

/-- R113, R114, R116: `SetResetLatch`, its records, effects and result; nothing else changes. -/
def Obligations.SetResetLatchOperations : Prop :=
  ∀ s : State,
    (∀ w, encodeRecord (.srlSet w) = ⟨1, 0, 0, w⟩ ∧ exec (.srlSet w) s = .next { s with srl := ⟨w⟩ }) ∧
    (encodeRecord .srlReset = ⟨1, 1, 0, 0⟩ ∧ exec .srlReset s = .next { s with srl := ⟨0⟩ }) ∧
    (encodeRecord .srlRead = ⟨1, 2, 0, 0⟩ ∧
      exec .srlRead s = .next { s with returned := s.returned ++ [.word s.srl.stored] })

/-- R117, R118, R119, R120, with R110 and R111: the operations of `ClockedSetResetLatch`, nothing else changing. The clock
operation records the level on every genuine change and copies the queued word, which stays, to the output on a triggering
one; a re-assertion changes nothing. -/
def Obligations.ClockedLatchOperations : Prop :=
  ∀ s : State,
    (∀ w, encodeRecord (.dffSetData w) = ⟨2, 0, 0, w⟩ ∧
      exec (.dffSetData w) s = .next { s with dff := { s.dff with directInput := w } }) ∧
    (encodeRecord .dffReset = ⟨2, 2, 0, 0⟩ ∧
      exec .dffReset s = .next { s with dff := { s.dff with stored := 0, directInput := 0 } }) ∧
    (encodeRecord .dffRead = ⟨2, 3, 0, 0⟩ ∧
      exec .dffRead s = .next { s with returned := s.returned ++ [.word s.dff.stored] }) ∧
    (∀ level : Bit,
      encodeRecord (.dffSetClock level) = ⟨2, 1, 0, level.toNat⟩ ∧
      exec (.dffSetClock level) s = .next { s with dff := { s.dff with
        clockState := level
        stored :=
          if level ≠ s.dff.clockState ∧ (s.dff.triggerMode = .bothEdges ∨
              s.dff.triggerMode = .risingEdge ∧ level = true ∨ s.dff.triggerMode = .fallingEdge ∧ level = false)
          then s.dff.directInput else s.dff.stored } })

/-- R121, R122, R123, R124, R125, with R110, R111 and R128: the operations of the SR flip-flop, nothing else changing. At the
qualifying edge the stored bit is cleared, set, toggled or held by the two queued bits, which stay; a re-assertion changes
nothing. -/
def Obligations.SRFlipFlopOperations : Prop :=
  ∀ s : State,
    (∀ l : Bit,
      (encodeRecord (.srffSetSetQueue l) = ⟨3, 0, 0, l.toNat⟩ ∧
        exec (.srffSetSetQueue l) s = .next { s with srff := { s.srff with setQueue := l } }) ∧
      (encodeRecord (.srffSetResetQueue l) = ⟨3, 1, 0, l.toNat⟩ ∧
        exec (.srffSetResetQueue l) s = .next { s with srff := { s.srff with resetQueue := l } }) ∧
      (encodeRecord .srffRead = ⟨3, 3, 0, 0⟩ ∧
        exec .srffRead s = .next { s with returned := s.returned ++ [.bit s.srff.stored] })) ∧
    (∀ level : Bit,
      encodeRecord (.srffSetClock level) = ⟨3, 2, 0, level.toNat⟩ ∧
      exec (.srffSetClock level) s = .next { s with srff := { s.srff with
        clockState := level
        stored :=
          if level ≠ s.srff.clockState ∧ (s.srff.triggerMode = .bothEdges ∨
              s.srff.triggerMode = .risingEdge ∧ level = true ∨ s.srff.triggerMode = .fallingEdge ∧ level = false)
          then
            if s.srff.resetQueue = true ∧ s.srff.setQueue = false then false
            else if s.srff.setQueue = true ∧ s.srff.resetQueue = false then true
            else if s.srff.setQueue = true ∧ s.srff.resetQueue = true then !s.srff.stored
            else s.srff.stored
          else s.srff.stored } })

/-- R126, R127, R129, with R110, R111 and R128: the operations of the T flip-flop, nothing else changing. At the qualifying
edge the stored bit inverts if the T input is asserted and is held otherwise; the T input stays; a re-assertion changes
nothing. -/
def Obligations.TFlipFlopOperations : Prop :=
  ∀ s : State,
    (∀ l : Bit,
      (encodeRecord (.tffSetInputQueue l) = ⟨4, 0, 0, l.toNat⟩ ∧
        exec (.tffSetInputQueue l) s = .next { s with tff := { s.tff with inputQueue := l } }) ∧
      (encodeRecord .tffRead = ⟨4, 2, 0, 0⟩ ∧
        exec .tffRead s = .next { s with returned := s.returned ++ [.bit s.tff.stored] })) ∧
    (∀ level : Bit,
      encodeRecord (.tffSetClock level) = ⟨4, 1, 0, level.toNat⟩ ∧
      exec (.tffSetClock level) s = .next { s with tff := { s.tff with
        clockState := level
        stored :=
          if level ≠ s.tff.clockState ∧ (s.tff.triggerMode = .bothEdges ∨
              s.tff.triggerMode = .risingEdge ∧ level = true ∨ s.tff.triggerMode = .fallingEdge ∧ level = false)
            ∧ s.tff.inputQueue = true
          then !s.tff.stored else s.tff.stored } })

/-- R130: for every clocked component, a second clock operation with the same level changes no field at all. -/
def Obligations.ReassertedClockLevelChangesNothing : Prop :=
  ∀ (k : Kind) (clock : Bit → Instr), clockOf k = some clock →
    ∀ (s t : State) (level : Bit), exec (clock level) s = .next t → exec (clock level) t = .next t

/-! ## Routers -/

/-- R140 to R144: the operations of the multiplexer, nothing else changing. Loading an input and selecting one fault out of
range, whatever the chip-select is; the narrowness is `N < 8` (R11); the output is 0 if deselected, read in the states R25
allows (`selector < N`). -/
def Obligations.MultiplexerOperations : Prop :=
  ∀ s : State,
    (∀ i w, encodeRecord (.muxSetInputWord i w) = ⟨5, 0, i, w⟩ ∧
      (i < s.mux.inputs.length →
        exec (.muxSetInputWord i w) s = .next { s with mux := { s.mux with inputs := s.mux.inputs.set i w } }) ∧
      (s.mux.inputs.length ≤ i → exec (.muxSetInputWord i w) s = .fault (.selectorOutOfRange i))) ∧
    (∀ a, encodeRecord (.muxSetSelector a) = ⟨5, 1, 0, a⟩ ∧
      (a < s.mux.inputs.length → exec (.muxSetSelector a) s = .next { s with mux := { s.mux with selector := a } }) ∧
      (s.mux.inputs.length ≤ a → exec (.muxSetSelector a) s = .fault (.selectorOutOfRange a))) ∧
    (∀ l, encodeRecord (.muxSetChipSelect l) = ⟨5, 2, 0, l.toNat⟩ ∧
      exec (.muxSetChipSelect l) s = .next { s with mux := { s.mux with cs := l } }) ∧
    (encodeRecord .muxIsNarrow = ⟨5, 3, 0, 0⟩ ∧
      exec .muxIsNarrow s = .next { s with returned := s.returned ++ [.bit (decide (s.mux.inputs.length < 8))] }) ∧
    (encodeRecord .muxRead = ⟨5, 4, 0, 0⟩ ∧
      ∀ h : s.mux.selector < s.mux.inputs.length,
        exec .muxRead s = .next { s with
          returned := s.returned ++ [.word (if s.mux.cs then s.mux.inputs[s.mux.selector] else 0)] })

/-- R145, R146, R147, R148: the demultiplexer's input, chip-select, selector (rejected out of range) and narrowness. -/
def Obligations.DemultiplexerSettersAndNarrowness : Prop :=
  ∀ s : State,
    (∀ w, encodeRecord (.dmxSetInputWord w) = ⟨6, 0, 0, w⟩ ∧
      exec (.dmxSetInputWord w) s = .next { s with dmx := { s.dmx with input := w } }) ∧
    (∀ l, encodeRecord (.dmxSetChipSelect l) = ⟨6, 1, 0, l.toNat⟩ ∧
      exec (.dmxSetChipSelect l) s = .next { s with dmx := { s.dmx with cs := l } }) ∧
    (∀ k, encodeRecord (.dmxSetSelector k) = ⟨6, 2, 0, k⟩ ∧
      (k < s.dmx.n → exec (.dmxSetSelector k) s = .next { s with dmx := { s.dmx with selector := k } }) ∧
      (s.dmx.n ≤ k → exec (.dmxSetSelector k) s = .fault (.selectorOutOfRange k))) ∧
    (encodeRecord .dmxIsNarrow = ⟨6, 3, 0, 0⟩ ∧
      exec .dmxIsNarrow s = .next { s with returned := s.returned ++ [.bit (decide (s.dmx.n < 8))] })

/-- R149: the output asked for: the input word if it is the selected one and the chip-select is asserted, else 0; an index
out of range faults also when deselected. -/
def Obligations.DemultiplexerReadsOneOutput : Prop :=
  ∀ (s : State) (j : Nat), encodeRecord (.dmxRead j) = ⟨6, 4, j, 0⟩ ∧
    (j < s.dmx.n → exec (.dmxRead j) s = .next { s with
      returned := s.returned ++ [.word (if s.dmx.cs = true ∧ j = s.dmx.selector then s.dmx.input else 0)] }) ∧
    (s.dmx.n ≤ j → exec (.dmxRead j) s = .fault (.selectorOutOfRange j))

/-- R150: after the input word, the selector and the chip-select are set, in any order, exactly the selected output shows
the word and every other output shows 0. -/
def Obligations.DemultiplexerFansOutToOne : Prop :=
  ∀ (s : State) (w : Word) (k j : Nat) (setters : List Instr), k < s.dmx.n → j < s.dmx.n →
    setters.Perm [.dmxSetInputWord w, .dmxSetSelector k, .dmxSetChipSelect true] →
    execAll (setters ++ [.dmxRead j]) s = .next { s with
      dmx := { s.dmx with input := w, selector := k, cs := true }
      returned := s.returned ++ [.word (if j = k then w else 0)] }

/-! ## Register cell -/

/-- R160 to R163, R165, R166: the operations of a register cell, nothing else changing. With the write-enable false the clock
operation is ignored entirely; otherwise the level is recorded and a rise stores the queued word; the chip-select gates the
output and plays no part in a store. -/
def Obligations.RegisterCellOperations : Prop :=
  ∀ s : State,
    (∀ w, encodeRecord (.cellSetInput w) = ⟨7, 0, 0, w⟩ ∧
      exec (.cellSetInput w) s = .next { s with cell := { s.cell with queued := w } }) ∧
    (∀ l, encodeRecord (.cellSetChipSelect l) = ⟨7, 1, 0, l.toNat⟩ ∧
      exec (.cellSetChipSelect l) s = .next { s with cell := { s.cell with cs := l } }) ∧
    (∀ l, encodeRecord (.cellSetWriteEnable l) = ⟨7, 2, 0, l.toNat⟩ ∧
      exec (.cellSetWriteEnable l) s = .next { s with cell := { s.cell with we := l } }) ∧
    (encodeRecord .cellRead = ⟨7, 4, 0, 0⟩ ∧
      exec .cellRead s = .next { s with
        returned := s.returned ++ [.word (if s.cell.cs then s.cell.data else 0)] }) ∧
    (∀ level : Bit,
      encodeRecord (.cellSetClock level) = ⟨7, 3, 0, level.toNat⟩ ∧
      exec (.cellSetClock level) s = .next
        (if s.cell.we = false then s
         else if s.cell.clock = false ∧ level = true then
          { s with cell := { s.cell with clock := true, data := s.cell.queued } }
         else { s with cell := { s.cell with clock := level } }))

/-- R28 (which the spec marks derived): a register cell is a rising-edge `ClockedSetResetLatch` whose clock is reached only
while it is write-enabled. -/
def Obligations.RegisterCellIsAGatedClockedLatch : Prop :=
  ∀ (c : RegisterCell) (level : Bit),
    (c.setClock level).bistable = if c.we then c.bistable.setClock level else c.bistable

/-! ## Memory block -/

/-- R172, R174 to R177: each control setter writes its field and re-broadcasts: the selected line takes the block's flags and
clock level, every other line the zeroed word; no other component and no other field changes. -/
def Obligations.BlockSettersBroadcastTheControlWord : Prop :=
  ∀ s : State,
    (∀ l, encodeRecord (.blkSetChipSelect l) = ⟨8, 0, 0, l.toNat⟩ ∧
      ∃ b, exec (.blkSetChipSelect l) s = .next { s with blk := b } ∧
        MemoryBlock.ControlBroadcastOf { s.blk with cs := l } b) ∧
    (∀ l, encodeRecord (.blkSetWriteEnable l) = ⟨8, 1, 0, l.toNat⟩ ∧
      ∃ b, exec (.blkSetWriteEnable l) s = .next { s with blk := b } ∧
        MemoryBlock.ControlBroadcastOf { s.blk with we := l } b) ∧
    (∀ l, encodeRecord (.blkSetClock l) = ⟨8, 2, 0, l.toNat⟩ ∧
      ∃ b, exec (.blkSetClock l) s = .next { s with blk := b } ∧
        MemoryBlock.ControlBroadcastOf { s.blk with clk := l } b) ∧
    (∀ a, encodeRecord (.blkSetAddress a) = ⟨8, 3, 0, a⟩ ∧
      ∃ b, exec (.blkSetAddress a) s = .next { s with blk := b } ∧
        MemoryBlock.ControlBroadcastOf { s.blk with addr := a } b)

/-- R173, R178: `set_feed` gives the selected line the word and every other line 0 as its queued input; nothing else
changes, no data in particular. -/
def Obligations.BlockFeedReachesOneQueuedInput : Prop :=
  ∀ (s : State) (w : Word), encodeRecord (.blkSetFeed w) = ⟨8, 4, 0, w⟩ ∧
    ∃ b, exec (.blkSetFeed w) s = .next { s with blk := b } ∧ MemoryBlock.DataBroadcastOf { s.blk with feed := w } b

/-- R31, R179: the chip-select test comes first; then no selected line is a fault; else the selected line's output is
returned and the read multiplexer holds the line's index and every line's output. Nothing else changes where the routers hold
the copies of R31; before that (log entries 7 and 21) the other copies of the routers are all that may. -/
def Obligations.BlockReadsItsSelectedLine : Prop :=
  encodeRecord .blkReadWord = ⟨8, 5, 0, 0⟩ ∧
  ∀ s : State,
    (s.blk.cs = false → ∃ b,
      exec .blkReadWord s = .next { s with blk := b, returned := s.returned ++ [.word 0] } ∧
      b.hideRouters = s.blk.hideRouters ∧ (s.blk.RoutersCopy → b = s.blk)) ∧
    (s.blk.cs = true → s.blk.addr < s.blk.base ∨ s.blk.base + s.blk.lines.length ≤ s.blk.addr →
      exec .blkReadWord s = .fault (.selectorOutOfRange s.blk.addr)) ∧
    (∀ i c, s.blk.cs = true → s.blk.addr = s.blk.base + i → s.blk.lines[i]? = some c →
      ∃ b, exec .blkReadWord s = .next { s with
          blk := b
          returned := s.returned ++ [.word (if c.cs then c.data else 0)] } ∧
        b.readMux = ⟨s.blk.lines.map fun line => if line.cs then line.data else 0, i, true⟩ ∧
        b.hideRouters = s.blk.hideRouters ∧ (s.blk.RoutersCopy → b = { s.blk with readMux := b.readMux }))

/-- R181 (which the spec marks derived): in an operation of a block, a line's data changes only for the line that is selected
afterwards, only with the write-enable and the clock high, and only to its queued word; so at most one line's data changes,
and none by a read. -/
def Obligations.BlockDataChangesOnlyAtTheSelectedLine : Prop :=
  ∀ (i : Instr) (s t : State), i.kind = .blk → exec i s = .next t →
    t.blk.lines.length = s.blk.lines.length ∧
    ∀ (j : Nat) (c c' : RegisterCell), s.blk.lines[j]? = some c → t.blk.lines[j]? = some c' → c'.data ≠ c.data →
      i ≠ .blkReadWord ∧ t.blk.sel = some j ∧ t.blk.we = true ∧ t.blk.clk = true ∧ c'.data = c.queued

/-- R182 (which the spec marks derived): from any state with the block clock low, the source's write and read round trip at
an address of the block returns the word written and changes no other line's data. -/
def Obligations.BlockRoundTripReturnsTheWord : Prop :=
  ∀ (s : State) (i : Nat) (w : Word), s.blk.clk = false → i < s.blk.lines.length →
    ∃ b, execAll (blkRoundTrip (s.blk.base + i) w) s = .next { s with
        blk := b
        returned := s.returned ++ [.word w] } ∧
      b.lines.map RegisterCell.data = (s.blk.lines.map RegisterCell.data).set i w

/-- R180 (which the spec marks derived): the flat form and the structural form of a block return the same values, end in the
same faults and reach the same flat state on every operation sequence, from every state in which R37 holds of the block. -/
def Obligations.BlockEqualsItsFlatForm : Prop :=
  ∀ (ops : List Instr) (s : State), (∀ i ∈ ops, i.kind = .blk) → s.blk.Gated →
    match FlatBlock.applyAll ops s.blk.flat with
    | .ok (f, values) =>
      ∃ t, execAll ops s = .next t ∧ t.blk.flat = f ∧ t.returned = s.returned ++ values
    | .error f => execAll ops s = .fault f

/-- R183 (which the spec marks derived; log entry 20): where R31, R37 and R184 hold of the block, re-broadcasting the control
word changes nothing, and so does each control setter called with the value its field already holds. -/
def Obligations.RepeatedBlockSetterChangesNothing : Prop :=
  ∀ s : State, s.blk.Gated → s.blk.ClockTracked → s.blk.RoutersCopy →
    s.blk.broadcastControl = s.blk ∧
    exec (.blkSetChipSelect s.blk.cs) s = .next s ∧ exec (.blkSetWriteEnable s.blk.we) s = .next s ∧
    exec (.blkSetClock s.blk.clk) s = .next s ∧ exec (.blkSetAddress s.blk.addr) s = .next s

/-! ## Driver -/

/-- R191 to R195, R198: every driver setter calls the block operation of the same name, with the same operand, on every
block; `set_address` keeps the address as well; nothing else changes. -/
def Obligations.DriverSettersFanOutToEveryBlock : Prop :=
  ∀ s : State,
    (∀ l, encodeRecord (.drvSetChipSelect l) = ⟨9, 0, 0, l.toNat⟩ ∧
      ∃ bs, exec (.drvSetChipSelect l) s = .next { s with drv := { s.drv with blocks := bs } } ∧
        List.Forall₂ (fun b b' => MemoryBlock.ControlBroadcastOf { b with cs := l } b') s.drv.blocks bs) ∧
    (∀ l, encodeRecord (.drvSetWriteEnable l) = ⟨9, 1, 0, l.toNat⟩ ∧
      ∃ bs, exec (.drvSetWriteEnable l) s = .next { s with drv := { s.drv with blocks := bs } } ∧
        List.Forall₂ (fun b b' => MemoryBlock.ControlBroadcastOf { b with we := l } b') s.drv.blocks bs) ∧
    (∀ a, encodeRecord (.drvSetAddress a) = ⟨9, 2, 0, a⟩ ∧
      ∃ bs, exec (.drvSetAddress a) s = .next { s with drv := { s.drv with blocks := bs, addr := a } } ∧
        List.Forall₂ (fun b b' => MemoryBlock.ControlBroadcastOf { b with addr := a } b') s.drv.blocks bs) ∧
    (∀ l, encodeRecord (.drvSetClock l) = ⟨9, 3, 0, l.toNat⟩ ∧
      ∃ bs, exec (.drvSetClock l) s = .next { s with drv := { s.drv with blocks := bs } } ∧
        List.Forall₂ (fun b b' => MemoryBlock.ControlBroadcastOf { b with clk := l } b') s.drv.blocks bs) ∧
    (∀ w, encodeRecord (.drvSetFeed w) = ⟨9, 6, 0, w⟩ ∧
      ∃ bs, exec (.drvSetFeed w) s = .next { s with drv := { s.drv with blocks := bs } } ∧
        List.Forall₂ (fun b b' => MemoryBlock.DataBroadcastOf { b with feed := w } b') s.drv.blocks bs)

/-- R196: a read at an in-range address returns the addressed line's data, or 0 while the blocks are deselected, and changes
nothing but the owning block's hidden copies; at an address beyond the last line it faults, whatever the chip-select is. In
the states R37, R38 and R66 allow; a driver has at least one block (R10). -/
def Obligations.DriverReadsTheAddressedLine : Prop :=
  encodeRecord .drvReadWord = ⟨9, 4, 0, 0⟩ ∧
  ∀ (s : State) (cs : Bit), s.drv.Laid → (∀ b ∈ s.drv.blocks, b.Gated ∧ b.cs = cs) →
    (s.drv.addr < totalLines s.drv.sizes → ∃ d w k, s.drv.dataAt s.drv.addr = some w ∧
      exec (.drvDetermineBlockIndex s.drv.addr) s = .next { s with returned := s.returned ++ [.nat k] } ∧
      exec .drvReadWord s = .next { s with
        drv := d
        returned := s.returned ++ [.word (if cs then w else 0)] } ∧
      d.addr = s.drv.addr ∧ d.addressWidth = s.drv.addressWidth ∧
      d.blocks.map MemoryBlock.hideRouters = s.drv.blocks.map MemoryBlock.hideRouters ∧
      ∀ j, j ≠ k → d.blocks[j]? = s.drv.blocks[j]?) ∧
    (totalLines s.drv.sizes ≤ s.drv.addr → exec .drvReadWord s = .fault (.addressOutOfRange s.drv.addr))

/-- R197: the query answers the block whose cumulative range holds the address, the first whose cumulative line count exceeds
it, and faults beyond the last line; it reads neither the current address nor a block's contents and changes nothing. -/
def Obligations.DriverDecodesAnAddress : Prop :=
  ∀ (s : State) (a : Nat), encodeRecord (.drvDetermineBlockIndex a) = ⟨9, 5, 0, a⟩ ∧
    (a < totalLines s.drv.sizes → ∃ b, b < s.drv.blocks.length ∧
      totalLines (s.drv.sizes.take b) ≤ a ∧ a < totalLines (s.drv.sizes.take (b + 1)) ∧
      exec (.drvDetermineBlockIndex a) s = .next { s with returned := s.returned ++ [.nat b] }) ∧
    (totalLines s.drv.sizes ≤ a → exec (.drvDetermineBlockIndex a) s = .fault (.addressOutOfRange a))

/-- R39, R199: the query answers the construction constant, the least exponent whose power of two reaches the line count. -/
def Obligations.DriverAddressWidthIsTheLeast : Prop :=
  encodeRecord .drvAddressWidth = ⟨9, 7, 0, 0⟩ ∧
  ∀ s : State, s.drv.Laid →
    ∃ k, exec .drvAddressWidth s = .next { s with returned := s.returned ++ [.nat k] } ∧
      totalLines s.drv.sizes ≤ 2 ^ k ∧ ∀ j, totalLines s.drv.sizes ≤ 2 ^ j → k ≤ j

/-- R200 (which the spec marks derived): after `set_address` the block the decode answers, and no other, has a selected line,
at the address less the block's base, and it is the block whose range holds the address; the decode faults exactly where no
block has one. -/
def Obligations.DecodeAndSelectionAgree : Prop :=
  ∀ (s t : State) (a : Nat), s.drv.Laid → exec (.drvSetAddress a) s = .next t →
    (∀ (k : Nat) (b : MemoryBlock), t.drv.blocks[k]? = some b →
      (b.sel = some (a - b.base) ↔ b.base ≤ a ∧ a < b.base + b.lines.length) ∧
      (b.sel = some (a - b.base) ↔
        exec (.drvDetermineBlockIndex a) s = .next { s with returned := s.returned ++ [.nat k] }) ∧
      (b.sel = none ↔
        exec (.drvDetermineBlockIndex a) s ≠ .next { s with returned := s.returned ++ [.nat k] })) ∧
    (exec (.drvDetermineBlockIndex a) s = .fault (.addressOutOfRange a) ↔ ∀ b ∈ t.drv.blocks, b.sel = none)

/-- R201 (which the spec marks derived): from construction, a driver and one block as large as all of its blocks return the
same values on every sequence of setters and reads, up to the first read at an address beyond the last line; there the driver
faults, and the block faults if its chip-select is asserted and returns 0 otherwise. -/
def Obligations.DriverIsOneFlatMemory : Prop :=
  ∀ (c : Config) (drvOps blkOps : List Instr), c.blkBase = 0 → c.blkLines = totalLines c.drvBlocks →
    SameOperations drvOps blkOps →
    (∀ t, execAll drvOps (State.construct c) = .next t →
      ∃ u, execAll blkOps (State.construct c) = .next u ∧ u.returned = t.returned) ∧
    (∀ f, execAll drvOps (State.construct c) = .fault f →
      ∃ (n a : Nat) (t u : State), f = .addressOutOfRange a ∧ totalLines c.drvBlocks ≤ a ∧
        drvOps[n]? = some .drvReadWord ∧ execAll (drvOps.take n) (State.construct c) = .next t ∧ t.drv.addr = a ∧
        exec .drvReadWord t = .fault f ∧ execAll (blkOps.take n) (State.construct c) = .next u ∧
        u.returned = t.returned ∧
        (u.blk.cs = true → exec .blkReadWord u = .fault (.selectorOutOfRange a)) ∧
        (u.blk.cs = false → ∃ v, exec .blkReadWord u = .next v ∧ v.returned = u.returned ++ [.word 0]))

/-- R77 and R80 (which the spec marks derived): with the driver's clock low, the write sequence stores the word at the
addressed line and changes no other line's data; beyond the last line it changes no line's data and raises no fault. -/
def Obligations.DriverWriteStoresOneLine : Prop :=
  ∀ (s : State) (a : Nat) (w : Word), s.drv.Laid → s.drv.ClockLow →
    ∃ d, execAll (drvWrite a w) s = .next { s with drv := d } ∧
      (∀ a', d.dataAt a' = if a' = a ∧ a < totalLines s.drv.sizes then some w else s.drv.dataAt a')

/-- R76 (which the spec marks derived): with the driver's clock low, the read sequence returns the addressed line's data,
changes no line's data and leaves every block chip-selected at that address; beyond the last line it faults. -/
def Obligations.DriverLoadReturnsTheLine : Prop :=
  ∀ (s : State) (a : Nat), s.drv.Laid → s.drv.ClockLow →
    (a < totalLines s.drv.sizes → ∃ d w, s.drv.dataAt a = some w ∧
      execAll (drvLoad a) s = .next { s with drv := d, returned := s.returned ++ [.word w] } ∧
      (∀ a', d.dataAt a' = s.drv.dataAt a') ∧ ∀ b ∈ d.blocks, b.cs = true ∧ b.addr = a) ∧
    (totalLines s.drv.sizes ≤ a → execAll (drvLoad a) s = .fault (.addressOutOfRange a))

/-! ## Controller -/

/-- R210 to R213, R215, R216: each per-core setter writes one field of that core's record and nothing else; the read returns
the core's last captured response and changes nothing. -/
def Obligations.PerCoreOperationsTouchOneRecord : Prop :=
  ∀ (s : State) (c : Nat) (q : QueueRecord), s.ctl.queue[c]? = some q →
    (∀ v, encodeRecord (.ctlSetChipSelect c v) = ⟨10, 0, c, v.toNat⟩ ∧ exec (.ctlSetChipSelect c v) s =
      .next { s with ctl := { s.ctl with queue := s.ctl.queue.set c { q with cs := v } } }) ∧
    (∀ v, encodeRecord (.ctlSetWriteEnable c v) = ⟨10, 1, c, v.toNat⟩ ∧ exec (.ctlSetWriteEnable c v) s =
      .next { s with ctl := { s.ctl with queue := s.ctl.queue.set c { q with we := v } } }) ∧
    (∀ a, encodeRecord (.ctlSetAddress c a) = ⟨10, 2, c, a⟩ ∧ exec (.ctlSetAddress c a) s =
      .next { s with ctl := { s.ctl with queue := s.ctl.queue.set c { q with addr := a } } }) ∧
    (∀ w, encodeRecord (.ctlSetFeed c w) = ⟨10, 3, c, w⟩ ∧ exec (.ctlSetFeed c w) s =
      .next { s with ctl := { s.ctl with queue := s.ctl.queue.set c { q with feed := w } } }) ∧
    (encodeRecord (.ctlReadResponse c) = ⟨10, 5, c, 0⟩ ∧ exec (.ctlReadResponse c) s =
      .next { s with returned := s.returned ++ [.word q.response] })

/-- R98, R222, R238 (log entry 9): a core id not below `core_count` is no operation: refused, neither a fault nor a
transition. -/
def Obligations.CoreIdOutOfRangeIsRefused : Prop :=
  ∀ (s : State) (c : Nat), s.ctl.queue.length ≤ c →
    (∀ v, exec (.ctlSetChipSelect c v) s = .refused (.illFormed (.coreIdOutOfRange c))) ∧
    (∀ v, exec (.ctlSetWriteEnable c v) s = .refused (.illFormed (.coreIdOutOfRange c))) ∧
    (∀ a, exec (.ctlSetAddress c a) s = .refused (.illFormed (.coreIdOutOfRange c))) ∧
    (∀ w, exec (.ctlSetFeed c w) s = .refused (.illFormed (.coreIdOutOfRange c))) ∧
    exec (.ctlReadResponse c) s = .refused (.illFormed (.coreIdOutOfRange c))

/-- R214: a re-assertion changes nothing. On a genuine change the focused core's request is applied by the driver's own
operations, chip-select, write-enable, address, data, then the clock level; then a falling change advances the focus, and a
rising change captures what the driver's own read returns into the focused core's response, or ends in its fault. -/
def Obligations.ControllerClockFollowsItsFourSteps : Prop :=
  ∀ (s : State) (level : Bit) (q : QueueRecord), s.ctl.queue[s.ctl.focus]? = some q →
    encodeRecord (.ctlSetClock level) = ⟨10, 4, 0, level.toNat⟩ ∧
    (level = s.ctl.clock → exec (.ctlSetClock level) s = .next s) ∧
    (level ≠ s.ctl.clock → ∃ d,
      execAll [.drvSetChipSelect q.cs, .drvSetWriteEnable q.we, .drvSetAddress q.addr, .drvSetFeed q.feed,
        .drvSetClock level] { s with drv := s.ctl.driver } = .next { s with drv := d } ∧
      (level = false → exec (.ctlSetClock level) s = .next { s with ctl := { s.ctl with
        driver := d
        focus := (s.ctl.focus + 1) % s.ctl.queue.length
        clock := false } }) ∧
      (level = true → (∀ d' w, exec .drvReadWord { s with drv := d } =
          .next { s with drv := d', returned := s.returned ++ [.word w] } →
        exec (.ctlSetClock level) s = .next { s with ctl := { s.ctl with
          driver := d'
          queue := s.ctl.queue.set s.ctl.focus { q with response := w }
          clock := true } }) ∧
        (∀ f, exec .drvReadWord { s with drv := d } = .fault f → exec (.ctlSetClock level) s = .fault f)))

/-- R79 and R221 (which the spec marks derived), R214: a rising service with the bus clock low: an in-range request stores
its feed at its address if write-enabled and captures that line as it then stands (0 if deselected), and no other line's data
changes; an out-of-range address faults. -/
def Obligations.RisingServiceStoresThenCaptures : Prop :=
  ∀ (s : State) (q : QueueRecord), s.ctl.driver.Laid → s.ctl.driver.ClockLow → s.ctl.clock = false →
    s.ctl.queue[s.ctl.focus]? = some q →
    (q.addr < totalLines s.ctl.driver.sizes → ∃ d w, s.ctl.driver.dataAt q.addr = some w ∧
      exec (.ctlSetClock true) s = .next { s with ctl := { s.ctl with
        driver := d
        clock := true
        queue := s.ctl.queue.set s.ctl.focus
          { q with response := if q.cs then (if q.we then q.feed else w) else 0 } } } ∧
      (∀ a, d.dataAt a = if a = q.addr ∧ q.we = true then some q.feed else s.ctl.driver.dataAt a)) ∧
    (totalLines s.ctl.driver.sizes ≤ q.addr → exec (.ctlSetClock true) s = .fault (.addressOutOfRange q.addr))

/-- R48, R50, and R217 (which the spec marks derived): the focus and the clock move only with the controller's clock
operation: the clock takes the level, and the focus advances, wrapping, exactly on a genuine falling change. -/
def Obligations.FocusMovesOnlyOnFallingChanges : Prop :=
  ∀ (i : Instr) (s t : State), exec i s = .next t →
    (t.ctl.clock = if i = .ctlSetClock true then true else if i = .ctlSetClock false then false else s.ctl.clock) ∧
    (t.ctl.focus = if i = .ctlSetClock false ∧ s.ctl.clock = true then (s.ctl.focus + 1) % s.ctl.queue.length
      else s.ctl.focus)

/-- R218: with the clock low and every staged address in range, every number of full clock pulses completes, and after `k`
of them the focus is `k` cores further, wrapping: service `k` after construction is core `k mod core_count`'s. In the states
R38, R40 and R66 allow. -/
def Obligations.RoundRobinServesTheCoresInOrder : Prop :=
  ∀ (s : State) (k : Nat), s.ctl.driver.Laid → s.ctl.clock = false → s.ctl.focus < s.ctl.queue.length →
    (∀ q ∈ s.ctl.queue, q.addr < totalLines s.ctl.driver.sizes) →
    ∃ t, execAll (controllerPulses k) s = .next t ∧ t.ctl.clock = false ∧
      t.ctl.focus = (s.ctl.focus + k) % s.ctl.queue.length

/-- R42, and R220 (which the spec marks derived): a core keeps its record for ever; no operation but its own setters changes
its request, and its response is changed only by a genuine rising change while the core has the focus. -/
def Obligations.RequestsAreHeldAndResponsesCaptured : Prop :=
  ∀ (i : Instr) (s t : State) (c : Nat) (q : QueueRecord), exec i s = .next t → s.ctl.queue[c]? = some q →
    ∃ q', t.ctl.queue[c]? = some q' ∧
    (q'.cs ≠ q.cs → i = .ctlSetChipSelect c q'.cs) ∧ (q'.we ≠ q.we → i = .ctlSetWriteEnable c q'.we) ∧
    (q'.addr ≠ q.addr → i = .ctlSetAddress c q'.addr) ∧ (q'.feed ≠ q.feed → i = .ctlSetFeed c q'.feed) ∧
    (q'.response ≠ q.response → i = .ctlSetClock true ∧ s.ctl.clock = false ∧ s.ctl.focus = c)

/-! ## Whole-machine rules -/

/-- R20: an operation changes no component but the one of its own kind, and no construction parameter; the caller's list and
the run status are not the hardware's to change. -/
def Obligations.OperationTouchesItsOwnComponentOnly : Prop :=
  ∀ (i : Instr) (s t : State), exec i s = .next t →
    (i.kind ≠ .srl → t.srl = s.srl) ∧ (i.kind ≠ .dff → t.dff = s.dff) ∧ (i.kind ≠ .srff → t.srff = s.srff) ∧
    (i.kind ≠ .tff → t.tff = s.tff) ∧ (i.kind ≠ .mux → t.mux = s.mux) ∧ (i.kind ≠ .dmx → t.dmx = s.dmx) ∧
    (i.kind ≠ .cell → t.cell = s.cell) ∧ (i.kind ≠ .blk → t.blk = s.blk) ∧ (i.kind ≠ .drv → t.drv = s.drv) ∧
    (i.kind ≠ .ctl → t.ctl = s.ctl) ∧
    t.widths = s.widths ∧ t.fixture = s.fixture ∧ t.program = s.program ∧ t.status = s.status

/-- R14, and R65 (which the spec marks derived; log entry 21): a read or query returns one value, changes nothing a later
operation can observe, and repeated at once returns the same value; a setter returns nothing. -/
def Obligations.ReadsChangeNothingObservable : Prop :=
  ∀ (i : Instr) (s t : State), exec i s = .next t →
    (isRead i = true → t.observable = s.observable ∧ ∃ v, t.returned = s.returned ++ [v] ∧
      ∃ u, exec i t = .next u ∧ u.observable = s.observable ∧ u.returned = t.returned ++ [v]) ∧
    (isRead i = false → t.returned = s.returned)

/-- R231, R235, and R233 and R234 (which the spec marks derived): the operations that fault, the conditions on which they do,
and the recorded value: exactly these. In the states R38, R40 and R66 allow. -/
def Obligations.FaultsAreExactlyTheTaxonomy : Prop :=
  ∀ (i : Instr) (s : State) (f : Fault), s.drv.Laid → s.ctl.driver.Laid → s.ctl.focus < s.ctl.queue.length →
    (exec i s = .fault f ↔
      (∃ j w, i = .muxSetInputWord j w ∧ s.mux.inputs.length ≤ j ∧ f = .selectorOutOfRange j) ∨
      (∃ a, i = .muxSetSelector a ∧ s.mux.inputs.length ≤ a ∧ f = .selectorOutOfRange a) ∨
      (∃ k, i = .dmxSetSelector k ∧ s.dmx.n ≤ k ∧ f = .selectorOutOfRange k) ∨
      (∃ j, i = .dmxRead j ∧ s.dmx.n ≤ j ∧ f = .selectorOutOfRange j) ∨
      (i = .blkReadWord ∧ s.blk.cs = true ∧
        (s.blk.addr < s.blk.base ∨ s.blk.base + s.blk.lines.length ≤ s.blk.addr) ∧
        f = .selectorOutOfRange s.blk.addr) ∨
      (∃ a, i = .drvDetermineBlockIndex a ∧ totalLines s.drv.sizes ≤ a ∧ f = .addressOutOfRange a) ∨
      (i = .drvReadWord ∧ totalLines s.drv.sizes ≤ s.drv.addr ∧ f = .addressOutOfRange s.drv.addr) ∨
      (∃ q, i = .ctlSetClock true ∧ s.ctl.clock = false ∧ s.ctl.queue[s.ctl.focus]? = some q ∧
        totalLines s.ctl.driver.sizes ≤ q.addr ∧ f = .addressOutOfRange q.addr))

/-- R51, R232 (the repeated fault is the model's, log entry 18): a run status that is faulted makes every later step end in
that fault and is never cleared; a faulting step of an unfaulted run makes it faulted. -/
def Obligations.FaultIsAbsorbing : Prop :=
  (∀ (s : State) (f : Fault), s.status = .faulted f → step s = .fault f) ∧
  (∀ (s : State) (f : Fault) (k : Nat), s.status = .noFault → step s = .fault f →
    (advance^[k + 1] s).status = .faulted f ∧ step (advance^[k + 1] s) = .fault f)

/-- R7 to R10, R39, R190: no step changes a construction constant: widths, fixture, trigger modes, router sizes, the base and
the line count of every block, the address width and the core count. -/
def Obligations.ConstructionConstantsNeverChange : Prop :=
  ∀ s t : State, step s = .next t →
    t.widths = s.widths ∧ t.fixture = s.fixture ∧ t.dff.triggerMode = s.dff.triggerMode ∧
    t.srff.triggerMode = s.srff.triggerMode ∧ t.tff.triggerMode = s.tff.triggerMode ∧
    t.mux.inputs.length = s.mux.inputs.length ∧ t.dmx.n = s.dmx.n ∧
    t.blk.base = s.blk.base ∧ t.blk.lines.length = s.blk.lines.length ∧
    t.drv.blocks.map MemoryBlock.base = s.drv.blocks.map MemoryBlock.base ∧ t.drv.sizes = s.drv.sizes ∧
    t.drv.addressWidth = s.drv.addressWidth ∧ t.ctl.queue.length = s.ctl.queue.length ∧
    t.ctl.driver.blocks.map MemoryBlock.base = s.ctl.driver.blocks.map MemoryBlock.base ∧
    t.ctl.driver.sizes = s.ctl.driver.sizes ∧ t.ctl.driver.addressWidth = s.ctl.driver.addressWidth

/-! ## Invariants -/

/-- R37 (which the spec marks derived): every step keeps that each line's gating flags are the block's for the selected line
and false for every other. -/
def Obligations.StepKeepsLinesGated : Prop :=
  ∀ s t : State, s.LinesGated → step s = .next t → t.LinesGated

/-- R184 (which the spec marks derived): every step keeps that a selected, write-enabled line's clock is its block's. -/
def Obligations.StepKeepsClocksTracked : Prop :=
  ∀ s t : State, s.ClocksTracked → step s = .next t → t.ClocksTracked

/-- R31 (log entries 7 and 21): every step keeps that the routers of every block follow the block's fields, and that a block
whose routers hold the copies of R31 has them still, block by block and whatever the others hold. From construction on, an
operation of the block, a setter of the driver and a genuine change of the controller's clock each bring every block they
operate to those copies, and a read of the driver brings the owning block to them. -/
def Obligations.StepKeepsRoutersCopy : Prop :=
  (∀ s t : State, step s = .next t →
    (s.RoutersFollow → t.RoutersFollow) ∧ (s.blk.RoutersCopy → t.blk.RoutersCopy) ∧
    CopiesKept s.drv.blocks t.drv.blocks ∧ CopiesKept s.ctl.driver.blocks t.ctl.driver.blocks) ∧
  (∀ (i : Instr) (s t : State), s.RoutersFollow → exec i s = .next t →
    (i.kind = .blk → t.blk.RoutersCopy) ∧
    (i.kind = .drv → isRead i = false → ∀ b ∈ t.drv.blocks, b.RoutersCopy) ∧
    (∀ k, i = .drvReadWord →
      exec (.drvDetermineBlockIndex s.drv.addr) s = .next { s with returned := s.returned ++ [.nat k] } →
      ∃ b, t.drv.blocks[k]? = some b ∧ b.RoutersCopy) ∧
    (∀ level, i = .ctlSetClock level → level ≠ s.ctl.clock → ∀ b ∈ t.ctl.driver.blocks, b.RoutersCopy))

/-- R38, R39, R66, R191: every step keeps both drivers' layout: contiguous blocks that agree on every fanned-out field. -/
def Obligations.StepKeepsDriversLaid : Prop :=
  ∀ s t : State, s.DriversLaid → step s = .next t → t.DriversLaid

/-- Inferred from R214 step 2: every step keeps that the controller's blocks stand at the controller's clock level. -/
def Obligations.StepKeepsBusClocked : Prop :=
  ∀ s t : State, s.BusClocked → step s = .next t → t.BusClocked

/-- R25, R26, R40: every step keeps every selector below its router's `N` and the focus below `core_count`. -/
def Obligations.StepKeepsSelectorsInRange : Prop :=
  ∀ s t : State, s.SelectorsInRange → step s = .next t → t.SelectorsInRange

/-- R12 (log entry 3): every step keeps every `Word` below `2^WORD_BITS` and every `Sel` below `2^ADDR_BITS`, the selectors of
the routers inside the blocks included. -/
def Obligations.StepKeepsValuesInRange : Prop :=
  ∀ s t : State, s.ValuesInRange → step s = .next t → t.ValuesInRange

/-- R10, R44: every construction the spec allows yields a legal state: R12, R25, R26, R31, R37 to R40, R66 and R184 hold of
it (R31 as log entry 7 says it holds before a block's first operation). -/
def Obligations.ConstructionIsLegal : Prop :=
  ∀ c : Config, c.WellFormed = true → (State.construct c).Legal

/-- R7 to R12, R25 to R40, R184: the state after reset is legal (its parameters are log entry 2's). -/
def Obligations.ResetIsLegal : Prop := State.reset.Legal

/-- R45 (which the spec marks derived): after every construction every stored clock level is false and the focus is 0. -/
def Obligations.ConstructionLeavesClocksLowAndFocusZero : Prop :=
  ∀ c : Config,
    (State.construct c).dff.clockState = false ∧ (State.construct c).srff.clockState = false ∧
    (State.construct c).tff.clockState = false ∧ (State.construct c).cell.clock = false ∧
    (∀ b ∈ (State.construct c).blocks, b.clk = false ∧ ∀ line ∈ b.lines, line.clock = false) ∧
    (State.construct c).ctl.clock = false ∧ (State.construct c).ctl.focus = 0

/-- R26, R44, R51, R190, R260: after every construction every word, flag, address and selector is 0 or false, those of the
routers inside the blocks included, every component and every router has the size it was constructed with, each block of
both drivers lies where the sizes before it end, and no fault is raised. -/
def Obligations.ConstructionZeroesTheState : Prop :=
  ∀ c : Config,
    (State.construct c).srl = ⟨0⟩ ∧ (State.construct c).dff = ⟨0, 0, false, c.dffMode⟩ ∧
    (State.construct c).srff = ⟨false, false, false, false, c.srffMode⟩ ∧
    (State.construct c).tff = ⟨false, false, false, c.tffMode⟩ ∧
    (State.construct c).mux = ⟨List.replicate c.muxInputs 0, 0, false⟩ ∧
    (State.construct c).dmx = ⟨c.dmxOutputs, 0, 0, false⟩ ∧ (State.construct c).cell = ⟨false, 0, false, false, 0⟩ ∧
    (∀ b ∈ (State.construct c).blocks, b.cs = false ∧ b.we = false ∧ b.clk = false ∧ b.addr = 0 ∧ b.feed = 0 ∧
      (∀ line ∈ b.lines, line = ⟨false, 0, false, false, 0⟩) ∧ b.controlDemux = ⟨b.lines.length, 0, 0, false⟩ ∧
      b.writeDemux = ⟨b.lines.length, 0, 0, false⟩ ∧ b.readMux = ⟨List.replicate b.lines.length 0, 0, false⟩) ∧
    ((State.construct c).blk.base = c.blkBase ∧ (State.construct c).blk.lines.length = c.blkLines) ∧
    ((State.construct c).drv.sizes = c.drvBlocks ∧ (State.construct c).drv.addr = 0 ∧
      ∀ (k : Nat) (b : MemoryBlock), (State.construct c).drv.blocks[k]? = some b →
        b.base = totalLines (c.drvBlocks.take k)) ∧
    ((State.construct c).ctl.queue = List.replicate c.coreCount ⟨false, false, 0, 0, 0⟩ ∧
      (State.construct c).ctl.focus = 0 ∧ (State.construct c).ctl.clock = false ∧
      (State.construct c).ctl.driver.sizes = c.ctlBlocks ∧ (State.construct c).ctl.driver.addr = 0 ∧
      ∀ (k : Nat) (b : MemoryBlock), (State.construct c).ctl.driver.blocks[k]? = some b →
        b.base = totalLines (c.ctlBlocks.take k)) ∧
    (State.construct c).returned = [] ∧ (State.construct c).status = .noFault

/-- R7, R8, R10, R238: which parameters are those of a construction; any others are refused, with no state. That a block used
on its own may have any base (log entry 23), and that neither its lines nor the routers' sizes are held to `2^ADDR_BITS` (log
entry 24), is the model's choice. -/
def Obligations.ConstructionRefusesDegenerateParameters : Prop :=
  ∀ c : Config,
    ((∃ s, State.build c = .ok s) ↔
      1 ≤ c.widths.wordBits ∧ 1 ≤ c.widths.addrBits ∧ 1 ≤ c.muxInputs ∧ 1 ≤ c.dmxOutputs ∧ 1 ≤ c.blkLines ∧
      1 ≤ c.coreCount ∧ c.drvBlocks ≠ [] ∧ c.ctlBlocks ≠ [] ∧ (∀ n ∈ c.drvBlocks, 1 ≤ n) ∧
      (∀ n ∈ c.ctlBlocks, 1 ≤ n) ∧ totalLines c.drvBlocks ≤ 2 ^ c.widths.addrBits ∧
      totalLines c.ctlBlocks ≤ 2 ^ c.widths.addrBits) ∧
    (∀ s, State.build c = .ok s → s = State.construct c)
end

