-- ==== Sys2Proof/Laws/State.lean ====
section
/-! SUPPORT. One lemma per field per update of the state, each true by definition: no later proof unfolds an update. -/

namespace Sys2Proof.Machine

variable (s : State)

@[simp] theorem State.putSrl_widths (x : SetResetLatch) : (s.putSrl x).widths = s.widths := rfl
@[simp] theorem State.putSrl_fixture (x : SetResetLatch) : (s.putSrl x).fixture = s.fixture := rfl
@[simp] theorem State.putSrl_srl (x : SetResetLatch) : (s.putSrl x).srl = x := rfl
@[simp] theorem State.putSrl_dff (x : SetResetLatch) : (s.putSrl x).dff = s.dff := rfl
@[simp] theorem State.putSrl_srff (x : SetResetLatch) : (s.putSrl x).srff = s.srff := rfl
@[simp] theorem State.putSrl_tff (x : SetResetLatch) : (s.putSrl x).tff = s.tff := rfl
@[simp] theorem State.putSrl_mux (x : SetResetLatch) : (s.putSrl x).mux = s.mux := rfl
@[simp] theorem State.putSrl_dmx (x : SetResetLatch) : (s.putSrl x).dmx = s.dmx := rfl
@[simp] theorem State.putSrl_cell (x : SetResetLatch) : (s.putSrl x).cell = s.cell := rfl
@[simp] theorem State.putSrl_blk (x : SetResetLatch) : (s.putSrl x).blk = s.blk := rfl
@[simp] theorem State.putSrl_drv (x : SetResetLatch) : (s.putSrl x).drv = s.drv := rfl
@[simp] theorem State.putSrl_ctl (x : SetResetLatch) : (s.putSrl x).ctl = s.ctl := rfl
@[simp] theorem State.putSrl_program (x : SetResetLatch) : (s.putSrl x).program = s.program := rfl
@[simp] theorem State.putSrl_returned (x : SetResetLatch) : (s.putSrl x).returned = s.returned := rfl
@[simp] theorem State.putSrl_status (x : SetResetLatch) : (s.putSrl x).status = s.status := rfl
@[simp] theorem State.putDff_widths (x : ClockedSetResetLatch) : (s.putDff x).widths = s.widths := rfl
@[simp] theorem State.putDff_fixture (x : ClockedSetResetLatch) : (s.putDff x).fixture = s.fixture := rfl
@[simp] theorem State.putDff_srl (x : ClockedSetResetLatch) : (s.putDff x).srl = s.srl := rfl
@[simp] theorem State.putDff_dff (x : ClockedSetResetLatch) : (s.putDff x).dff = x := rfl
@[simp] theorem State.putDff_srff (x : ClockedSetResetLatch) : (s.putDff x).srff = s.srff := rfl
@[simp] theorem State.putDff_tff (x : ClockedSetResetLatch) : (s.putDff x).tff = s.tff := rfl
@[simp] theorem State.putDff_mux (x : ClockedSetResetLatch) : (s.putDff x).mux = s.mux := rfl
@[simp] theorem State.putDff_dmx (x : ClockedSetResetLatch) : (s.putDff x).dmx = s.dmx := rfl
@[simp] theorem State.putDff_cell (x : ClockedSetResetLatch) : (s.putDff x).cell = s.cell := rfl
@[simp] theorem State.putDff_blk (x : ClockedSetResetLatch) : (s.putDff x).blk = s.blk := rfl
@[simp] theorem State.putDff_drv (x : ClockedSetResetLatch) : (s.putDff x).drv = s.drv := rfl
@[simp] theorem State.putDff_ctl (x : ClockedSetResetLatch) : (s.putDff x).ctl = s.ctl := rfl
@[simp] theorem State.putDff_program (x : ClockedSetResetLatch) : (s.putDff x).program = s.program := rfl
@[simp] theorem State.putDff_returned (x : ClockedSetResetLatch) : (s.putDff x).returned = s.returned := rfl
@[simp] theorem State.putDff_status (x : ClockedSetResetLatch) : (s.putDff x).status = s.status := rfl
@[simp] theorem State.putSrff_widths (x : SRFlipFlop) : (s.putSrff x).widths = s.widths := rfl
@[simp] theorem State.putSrff_fixture (x : SRFlipFlop) : (s.putSrff x).fixture = s.fixture := rfl
@[simp] theorem State.putSrff_srl (x : SRFlipFlop) : (s.putSrff x).srl = s.srl := rfl
@[simp] theorem State.putSrff_dff (x : SRFlipFlop) : (s.putSrff x).dff = s.dff := rfl
@[simp] theorem State.putSrff_srff (x : SRFlipFlop) : (s.putSrff x).srff = x := rfl
@[simp] theorem State.putSrff_tff (x : SRFlipFlop) : (s.putSrff x).tff = s.tff := rfl
@[simp] theorem State.putSrff_mux (x : SRFlipFlop) : (s.putSrff x).mux = s.mux := rfl
@[simp] theorem State.putSrff_dmx (x : SRFlipFlop) : (s.putSrff x).dmx = s.dmx := rfl
@[simp] theorem State.putSrff_cell (x : SRFlipFlop) : (s.putSrff x).cell = s.cell := rfl
@[simp] theorem State.putSrff_blk (x : SRFlipFlop) : (s.putSrff x).blk = s.blk := rfl
@[simp] theorem State.putSrff_drv (x : SRFlipFlop) : (s.putSrff x).drv = s.drv := rfl
@[simp] theorem State.putSrff_ctl (x : SRFlipFlop) : (s.putSrff x).ctl = s.ctl := rfl
@[simp] theorem State.putSrff_program (x : SRFlipFlop) : (s.putSrff x).program = s.program := rfl
@[simp] theorem State.putSrff_returned (x : SRFlipFlop) : (s.putSrff x).returned = s.returned := rfl
@[simp] theorem State.putSrff_status (x : SRFlipFlop) : (s.putSrff x).status = s.status := rfl
@[simp] theorem State.putTff_widths (x : TFlipFlop) : (s.putTff x).widths = s.widths := rfl
@[simp] theorem State.putTff_fixture (x : TFlipFlop) : (s.putTff x).fixture = s.fixture := rfl
@[simp] theorem State.putTff_srl (x : TFlipFlop) : (s.putTff x).srl = s.srl := rfl
@[simp] theorem State.putTff_dff (x : TFlipFlop) : (s.putTff x).dff = s.dff := rfl
@[simp] theorem State.putTff_srff (x : TFlipFlop) : (s.putTff x).srff = s.srff := rfl
@[simp] theorem State.putTff_tff (x : TFlipFlop) : (s.putTff x).tff = x := rfl
@[simp] theorem State.putTff_mux (x : TFlipFlop) : (s.putTff x).mux = s.mux := rfl
@[simp] theorem State.putTff_dmx (x : TFlipFlop) : (s.putTff x).dmx = s.dmx := rfl
@[simp] theorem State.putTff_cell (x : TFlipFlop) : (s.putTff x).cell = s.cell := rfl
@[simp] theorem State.putTff_blk (x : TFlipFlop) : (s.putTff x).blk = s.blk := rfl
@[simp] theorem State.putTff_drv (x : TFlipFlop) : (s.putTff x).drv = s.drv := rfl
@[simp] theorem State.putTff_ctl (x : TFlipFlop) : (s.putTff x).ctl = s.ctl := rfl
@[simp] theorem State.putTff_program (x : TFlipFlop) : (s.putTff x).program = s.program := rfl
@[simp] theorem State.putTff_returned (x : TFlipFlop) : (s.putTff x).returned = s.returned := rfl
@[simp] theorem State.putTff_status (x : TFlipFlop) : (s.putTff x).status = s.status := rfl
@[simp] theorem State.putMux_widths (x : Multiplexer) : (s.putMux x).widths = s.widths := rfl
@[simp] theorem State.putMux_fixture (x : Multiplexer) : (s.putMux x).fixture = s.fixture := rfl
@[simp] theorem State.putMux_srl (x : Multiplexer) : (s.putMux x).srl = s.srl := rfl
@[simp] theorem State.putMux_dff (x : Multiplexer) : (s.putMux x).dff = s.dff := rfl
@[simp] theorem State.putMux_srff (x : Multiplexer) : (s.putMux x).srff = s.srff := rfl
@[simp] theorem State.putMux_tff (x : Multiplexer) : (s.putMux x).tff = s.tff := rfl
@[simp] theorem State.putMux_mux (x : Multiplexer) : (s.putMux x).mux = x := rfl
@[simp] theorem State.putMux_dmx (x : Multiplexer) : (s.putMux x).dmx = s.dmx := rfl
@[simp] theorem State.putMux_cell (x : Multiplexer) : (s.putMux x).cell = s.cell := rfl
@[simp] theorem State.putMux_blk (x : Multiplexer) : (s.putMux x).blk = s.blk := rfl
@[simp] theorem State.putMux_drv (x : Multiplexer) : (s.putMux x).drv = s.drv := rfl
@[simp] theorem State.putMux_ctl (x : Multiplexer) : (s.putMux x).ctl = s.ctl := rfl
@[simp] theorem State.putMux_program (x : Multiplexer) : (s.putMux x).program = s.program := rfl
@[simp] theorem State.putMux_returned (x : Multiplexer) : (s.putMux x).returned = s.returned := rfl
@[simp] theorem State.putMux_status (x : Multiplexer) : (s.putMux x).status = s.status := rfl
@[simp] theorem State.putDmx_widths (x : Demultiplexer Word) : (s.putDmx x).widths = s.widths := rfl
@[simp] theorem State.putDmx_fixture (x : Demultiplexer Word) : (s.putDmx x).fixture = s.fixture := rfl
@[simp] theorem State.putDmx_srl (x : Demultiplexer Word) : (s.putDmx x).srl = s.srl := rfl
@[simp] theorem State.putDmx_dff (x : Demultiplexer Word) : (s.putDmx x).dff = s.dff := rfl
@[simp] theorem State.putDmx_srff (x : Demultiplexer Word) : (s.putDmx x).srff = s.srff := rfl
@[simp] theorem State.putDmx_tff (x : Demultiplexer Word) : (s.putDmx x).tff = s.tff := rfl
@[simp] theorem State.putDmx_mux (x : Demultiplexer Word) : (s.putDmx x).mux = s.mux := rfl
@[simp] theorem State.putDmx_dmx (x : Demultiplexer Word) : (s.putDmx x).dmx = x := rfl
@[simp] theorem State.putDmx_cell (x : Demultiplexer Word) : (s.putDmx x).cell = s.cell := rfl
@[simp] theorem State.putDmx_blk (x : Demultiplexer Word) : (s.putDmx x).blk = s.blk := rfl
@[simp] theorem State.putDmx_drv (x : Demultiplexer Word) : (s.putDmx x).drv = s.drv := rfl
@[simp] theorem State.putDmx_ctl (x : Demultiplexer Word) : (s.putDmx x).ctl = s.ctl := rfl
@[simp] theorem State.putDmx_program (x : Demultiplexer Word) : (s.putDmx x).program = s.program := rfl
@[simp] theorem State.putDmx_returned (x : Demultiplexer Word) : (s.putDmx x).returned = s.returned := rfl
@[simp] theorem State.putDmx_status (x : Demultiplexer Word) : (s.putDmx x).status = s.status := rfl
@[simp] theorem State.putCell_widths (x : RegisterCell) : (s.putCell x).widths = s.widths := rfl
@[simp] theorem State.putCell_fixture (x : RegisterCell) : (s.putCell x).fixture = s.fixture := rfl
@[simp] theorem State.putCell_srl (x : RegisterCell) : (s.putCell x).srl = s.srl := rfl
@[simp] theorem State.putCell_dff (x : RegisterCell) : (s.putCell x).dff = s.dff := rfl
@[simp] theorem State.putCell_srff (x : RegisterCell) : (s.putCell x).srff = s.srff := rfl
@[simp] theorem State.putCell_tff (x : RegisterCell) : (s.putCell x).tff = s.tff := rfl
@[simp] theorem State.putCell_mux (x : RegisterCell) : (s.putCell x).mux = s.mux := rfl
@[simp] theorem State.putCell_dmx (x : RegisterCell) : (s.putCell x).dmx = s.dmx := rfl
@[simp] theorem State.putCell_cell (x : RegisterCell) : (s.putCell x).cell = x := rfl
@[simp] theorem State.putCell_blk (x : RegisterCell) : (s.putCell x).blk = s.blk := rfl
@[simp] theorem State.putCell_drv (x : RegisterCell) : (s.putCell x).drv = s.drv := rfl
@[simp] theorem State.putCell_ctl (x : RegisterCell) : (s.putCell x).ctl = s.ctl := rfl
@[simp] theorem State.putCell_program (x : RegisterCell) : (s.putCell x).program = s.program := rfl
@[simp] theorem State.putCell_returned (x : RegisterCell) : (s.putCell x).returned = s.returned := rfl
@[simp] theorem State.putCell_status (x : RegisterCell) : (s.putCell x).status = s.status := rfl
@[simp] theorem State.putBlk_widths (x : MemoryBlock) : (s.putBlk x).widths = s.widths := rfl
@[simp] theorem State.putBlk_fixture (x : MemoryBlock) : (s.putBlk x).fixture = s.fixture := rfl
@[simp] theorem State.putBlk_srl (x : MemoryBlock) : (s.putBlk x).srl = s.srl := rfl
@[simp] theorem State.putBlk_dff (x : MemoryBlock) : (s.putBlk x).dff = s.dff := rfl
@[simp] theorem State.putBlk_srff (x : MemoryBlock) : (s.putBlk x).srff = s.srff := rfl
@[simp] theorem State.putBlk_tff (x : MemoryBlock) : (s.putBlk x).tff = s.tff := rfl
@[simp] theorem State.putBlk_mux (x : MemoryBlock) : (s.putBlk x).mux = s.mux := rfl
@[simp] theorem State.putBlk_dmx (x : MemoryBlock) : (s.putBlk x).dmx = s.dmx := rfl
@[simp] theorem State.putBlk_cell (x : MemoryBlock) : (s.putBlk x).cell = s.cell := rfl
@[simp] theorem State.putBlk_blk (x : MemoryBlock) : (s.putBlk x).blk = x := rfl
@[simp] theorem State.putBlk_drv (x : MemoryBlock) : (s.putBlk x).drv = s.drv := rfl
@[simp] theorem State.putBlk_ctl (x : MemoryBlock) : (s.putBlk x).ctl = s.ctl := rfl
@[simp] theorem State.putBlk_program (x : MemoryBlock) : (s.putBlk x).program = s.program := rfl
@[simp] theorem State.putBlk_returned (x : MemoryBlock) : (s.putBlk x).returned = s.returned := rfl
@[simp] theorem State.putBlk_status (x : MemoryBlock) : (s.putBlk x).status = s.status := rfl
@[simp] theorem State.putDrv_widths (x : Driver) : (s.putDrv x).widths = s.widths := rfl
@[simp] theorem State.putDrv_fixture (x : Driver) : (s.putDrv x).fixture = s.fixture := rfl
@[simp] theorem State.putDrv_srl (x : Driver) : (s.putDrv x).srl = s.srl := rfl
@[simp] theorem State.putDrv_dff (x : Driver) : (s.putDrv x).dff = s.dff := rfl
@[simp] theorem State.putDrv_srff (x : Driver) : (s.putDrv x).srff = s.srff := rfl
@[simp] theorem State.putDrv_tff (x : Driver) : (s.putDrv x).tff = s.tff := rfl
@[simp] theorem State.putDrv_mux (x : Driver) : (s.putDrv x).mux = s.mux := rfl
@[simp] theorem State.putDrv_dmx (x : Driver) : (s.putDrv x).dmx = s.dmx := rfl
@[simp] theorem State.putDrv_cell (x : Driver) : (s.putDrv x).cell = s.cell := rfl
@[simp] theorem State.putDrv_blk (x : Driver) : (s.putDrv x).blk = s.blk := rfl
@[simp] theorem State.putDrv_drv (x : Driver) : (s.putDrv x).drv = x := rfl
@[simp] theorem State.putDrv_ctl (x : Driver) : (s.putDrv x).ctl = s.ctl := rfl
@[simp] theorem State.putDrv_program (x : Driver) : (s.putDrv x).program = s.program := rfl
@[simp] theorem State.putDrv_returned (x : Driver) : (s.putDrv x).returned = s.returned := rfl
@[simp] theorem State.putDrv_status (x : Driver) : (s.putDrv x).status = s.status := rfl
@[simp] theorem State.putCtl_widths (x : Controller) : (s.putCtl x).widths = s.widths := rfl
@[simp] theorem State.putCtl_fixture (x : Controller) : (s.putCtl x).fixture = s.fixture := rfl
@[simp] theorem State.putCtl_srl (x : Controller) : (s.putCtl x).srl = s.srl := rfl
@[simp] theorem State.putCtl_dff (x : Controller) : (s.putCtl x).dff = s.dff := rfl
@[simp] theorem State.putCtl_srff (x : Controller) : (s.putCtl x).srff = s.srff := rfl
@[simp] theorem State.putCtl_tff (x : Controller) : (s.putCtl x).tff = s.tff := rfl
@[simp] theorem State.putCtl_mux (x : Controller) : (s.putCtl x).mux = s.mux := rfl
@[simp] theorem State.putCtl_dmx (x : Controller) : (s.putCtl x).dmx = s.dmx := rfl
@[simp] theorem State.putCtl_cell (x : Controller) : (s.putCtl x).cell = s.cell := rfl
@[simp] theorem State.putCtl_blk (x : Controller) : (s.putCtl x).blk = s.blk := rfl
@[simp] theorem State.putCtl_drv (x : Controller) : (s.putCtl x).drv = s.drv := rfl
@[simp] theorem State.putCtl_ctl (x : Controller) : (s.putCtl x).ctl = x := rfl
@[simp] theorem State.putCtl_program (x : Controller) : (s.putCtl x).program = s.program := rfl
@[simp] theorem State.putCtl_returned (x : Controller) : (s.putCtl x).returned = s.returned := rfl
@[simp] theorem State.putCtl_status (x : Controller) : (s.putCtl x).status = s.status := rfl
@[simp] theorem State.putProgram_widths (x : List IssuedRecord) : (s.putProgram x).widths = s.widths := rfl
@[simp] theorem State.putProgram_fixture (x : List IssuedRecord) : (s.putProgram x).fixture = s.fixture := rfl
@[simp] theorem State.putProgram_srl (x : List IssuedRecord) : (s.putProgram x).srl = s.srl := rfl
@[simp] theorem State.putProgram_dff (x : List IssuedRecord) : (s.putProgram x).dff = s.dff := rfl
@[simp] theorem State.putProgram_srff (x : List IssuedRecord) : (s.putProgram x).srff = s.srff := rfl
@[simp] theorem State.putProgram_tff (x : List IssuedRecord) : (s.putProgram x).tff = s.tff := rfl
@[simp] theorem State.putProgram_mux (x : List IssuedRecord) : (s.putProgram x).mux = s.mux := rfl
@[simp] theorem State.putProgram_dmx (x : List IssuedRecord) : (s.putProgram x).dmx = s.dmx := rfl
@[simp] theorem State.putProgram_cell (x : List IssuedRecord) : (s.putProgram x).cell = s.cell := rfl
@[simp] theorem State.putProgram_blk (x : List IssuedRecord) : (s.putProgram x).blk = s.blk := rfl
@[simp] theorem State.putProgram_drv (x : List IssuedRecord) : (s.putProgram x).drv = s.drv := rfl
@[simp] theorem State.putProgram_ctl (x : List IssuedRecord) : (s.putProgram x).ctl = s.ctl := rfl
@[simp] theorem State.putProgram_program (x : List IssuedRecord) : (s.putProgram x).program = x := rfl
@[simp] theorem State.putProgram_returned (x : List IssuedRecord) : (s.putProgram x).returned = s.returned := rfl
@[simp] theorem State.putProgram_status (x : List IssuedRecord) : (s.putProgram x).status = s.status := rfl
@[simp] theorem State.returning_widths (v : Value) : (s.returning v).widths = s.widths := rfl
@[simp] theorem State.returning_fixture (v : Value) : (s.returning v).fixture = s.fixture := rfl
@[simp] theorem State.returning_srl (v : Value) : (s.returning v).srl = s.srl := rfl
@[simp] theorem State.returning_dff (v : Value) : (s.returning v).dff = s.dff := rfl
@[simp] theorem State.returning_srff (v : Value) : (s.returning v).srff = s.srff := rfl
@[simp] theorem State.returning_tff (v : Value) : (s.returning v).tff = s.tff := rfl
@[simp] theorem State.returning_mux (v : Value) : (s.returning v).mux = s.mux := rfl
@[simp] theorem State.returning_dmx (v : Value) : (s.returning v).dmx = s.dmx := rfl
@[simp] theorem State.returning_cell (v : Value) : (s.returning v).cell = s.cell := rfl
@[simp] theorem State.returning_blk (v : Value) : (s.returning v).blk = s.blk := rfl
@[simp] theorem State.returning_drv (v : Value) : (s.returning v).drv = s.drv := rfl
@[simp] theorem State.returning_ctl (v : Value) : (s.returning v).ctl = s.ctl := rfl
@[simp] theorem State.returning_program (v : Value) : (s.returning v).program = s.program := rfl
@[simp] theorem State.returning_returned (v : Value) : (s.returning v).returned = s.returned ++ [v] := rfl
@[simp] theorem State.returning_status (v : Value) : (s.returning v).status = s.status := rfl
@[simp] theorem State.afterFault_widths (f : Fault) : (s.afterFault f).widths = s.widths := rfl
@[simp] theorem State.afterFault_fixture (f : Fault) : (s.afterFault f).fixture = s.fixture := rfl
@[simp] theorem State.afterFault_program (f : Fault) : (s.afterFault f).program = s.program := rfl
@[simp] theorem State.afterFault_returned (f : Fault) : (s.afterFault f).returned = s.returned := rfl
@[simp] theorem State.afterFault_status (f : Fault) : (s.afterFault f).status = .faulted f := rfl

end Sys2Proof.Machine
end

