-- ==== Sys2Proof/Laws/Ops.lean ====
section
/-! SUPPORT. What each shared operation can do, said once: the later proofs cite these lemmas instead of unfolding the
operations. -/

namespace Sys2Proof.Machine

/-! ## Results -/

/-- An operation that asks a component goes on exactly where the component answers. -/
theorem orRaise_eq_next {α : Type} {r : Except Fault α} {go : α → State} {t : State}
    (h : orRaise r go = .next t) : ∃ a, r = .ok a ∧ t = go a := by
  cases r with
  | ok a => exact ⟨a, rfl, by simpa [orRaise] using h.symm⟩
  | error f => simp [orRaise, raise] at h

/-- An operation that asks a component ends in a fault exactly where the component does. -/
theorem orRaise_eq_fault {α : Type} {r : Except Fault α} {go : α → State} {f : Fault}
    (h : orRaise r go = .fault f) : r = .error f := by
  cases r with
  | ok a => simp [orRaise] at h
  | error g => simpa [orRaise, raise] using h

/-- An operation that asks a component never refuses. -/
theorem orRaise_ne_refused {α : Type} (r : Except Fault α) (go : α → State) (e : Refusal) :
    orRaise r go ≠ .refused e := by
  cases r <;> simp [orRaise, raise]

@[simp] theorem orRaise_ok {α : Type} (a : α) (go : α → State) : orRaise (.ok a) go = .next (go a) := rfl

@[simp] theorem orRaise_error {α : Type} (f : Fault) (go : α → State) : orRaise (.error f) go = .fault f := rfl

/-- A per-core operation goes on exactly where the core has a record (R222). -/
theorem onRecord_eq_next {s t : State} {c : Nat} {go : QueueRecord → State}
    (h : s.onRecord c go = .next t) : ∃ q, s.ctl.queue[c]? = some q ∧ t = go q := by
  unfold State.onRecord at h
  split at h
  · next q hq => exact ⟨q, hq, by simpa using h.symm⟩
  · simp at h

/-- A per-core operation never faults (R216). -/
theorem onRecord_ne_fault (s : State) (c : Nat) (go : QueueRecord → State) (f : Fault) :
    s.onRecord c go ≠ .fault f := by
  unfold State.onRecord
  split <;> simp

/-! ## Edges and control words -/

/-- R110: when the edge predicate fires. -/
theorem fires_iff (old new : Bit) (mode : TriggerMode) :
    fires old new mode = true ↔ old ≠ new ∧
      (mode = .bothEdges ∨ mode = .risingEdge ∧ new = true ∨ mode = .fallingEdge ∧ new = false) := by
  cases old <;> cases new <;> cases mode <;> simp [fires]

/-- R111: what a clocked step can do. -/
theorem clockedStep_cases {α : Type} (mode : TriggerMode) (old level : Bit) (observe action : α → α) (x : α) :
    (level = old ∧ clockedStep mode old level observe action x = x) ∨
    (level ≠ old ∧ fires old level mode = true ∧ clockedStep mode old level observe action x = action (observe x)) ∨
    (level ≠ old ∧ fires old level mode = false ∧ clockedStep mode old level observe action x = observe x) := by
  unfold clockedStep
  by_cases h : level = old
  · exact .inl ⟨h, by simp [h]⟩
  · cases hf : fires old level mode
    · exact .inr (.inr ⟨h, rfl, by simp [h]⟩)
    · exact .inr (.inl ⟨h, rfl, by simp [h]⟩)

@[simp] theorem controlCs_pack (cs we clk : Bit) : controlCs (pack cs we clk) = cs := by
  cases cs <;> cases we <;> cases clk <;> rfl

@[simp] theorem controlWe_pack (cs we clk : Bit) : controlWe (pack cs we clk) = we := by
  cases cs <;> cases we <;> cases clk <;> rfl

@[simp] theorem controlClk_pack (cs we clk : Bit) : controlClk (pack cs we clk) = clk := by
  cases cs <;> cases we <;> cases clk <;> rfl

/-! ## Register cells -/

/-- R163: the cell's clock operation in one record. -/
theorem RegisterCell.setClock_eq (level : Bit) (c : RegisterCell) :
    c.setClock level =
      { c with
        clock := if c.we then level else c.clock
        data := if c.we && level && !c.clock then c.queued else c.data } := by
  obtain ⟨clock, queued, cs, we, data⟩ := c
  cases we <;> cases level <;> cases clock <;> rfl

/-- R91, R172: the zeroed control word makes a line deselected and non-writable and leaves the rest. -/
theorem RegisterCell.applyControl_zero (c : RegisterCell) :
    c.applyControl 0 = { c with cs := false, we := false } := by
  obtain ⟨clock, queued, cs, we, data⟩ := c
  rfl

/-- R171: what a control word does to a line. -/
theorem RegisterCell.applyControl_pack (cs we clk : Bit) (c : RegisterCell) :
    c.applyControl (pack cs we clk) =
      { c with
        cs := cs
        we := we
        clock := if we then clk else c.clock
        data := if we && clk && !c.clock then c.queued else c.data } := by
  simp [RegisterCell.applyControl, RegisterCell.setChipSelect, RegisterCell.setWriteEnable,
    RegisterCell.setClock_eq]

/-! ## Memory blocks -/

/-- R36: an address selects a line exactly when it lies in the block. -/
theorem localLine_eq_some {base n : Nat} {a : Nat} {i : Nat} :
    localLine base n a = some i ↔ base ≤ a ∧ a < base + n ∧ i = a - base := by
  unfold localLine
  split
  · next h => simp [h, eq_comm]
  · next h => simp only [reduceCtorEq, false_iff]; tauto

/-- R36: an address selects no line exactly when it lies outside the block. -/
theorem localLine_eq_none {base n : Nat} {a : Nat} :
    localLine base n a = none ↔ a < base ∨ base + n ≤ a := by
  unfold localLine
  split
  · next h => simp only [reduceCtorEq, false_iff]; omega
  · next h => simp only [true_iff]; omega

/-- R36: the selected line is one of the block's lines. -/
theorem MemoryBlock.sel_lt {b : MemoryBlock} {i : Nat} (h : b.sel = some i) : i < b.lines.length := by
  have := (localLine_eq_some.mp h)
  simp only [MemoryBlock.n] at this
  omega

@[simp] theorem MemoryBlock.pointRouters_base (b : MemoryBlock) : b.pointRouters.base = b.base := by
  unfold pointRouters; split <;> rfl
@[simp] theorem MemoryBlock.pointRouters_cs (b : MemoryBlock) : b.pointRouters.cs = b.cs := by
  unfold pointRouters; split <;> rfl
@[simp] theorem MemoryBlock.pointRouters_we (b : MemoryBlock) : b.pointRouters.we = b.we := by
  unfold pointRouters; split <;> rfl
@[simp] theorem MemoryBlock.pointRouters_clk (b : MemoryBlock) : b.pointRouters.clk = b.clk := by
  unfold pointRouters; split <;> rfl
@[simp] theorem MemoryBlock.pointRouters_addr (b : MemoryBlock) : b.pointRouters.addr = b.addr := by
  unfold pointRouters; split <;> rfl
@[simp] theorem MemoryBlock.pointRouters_feed (b : MemoryBlock) : b.pointRouters.feed = b.feed := by
  unfold pointRouters; split <;> rfl
@[simp] theorem MemoryBlock.pointRouters_lines (b : MemoryBlock) : b.pointRouters.lines = b.lines := by
  unfold pointRouters; split <;> rfl

/-- R31, R172: output `i` of the control demultiplexer is the word for the selected line and 0 for every other. -/
theorem MemoryBlock.pointRouters_controlDemux_output (b : MemoryBlock) (w : ControlWord) (i : Nat) :
    (b.pointRouters.controlDemux.setInputWord w).output i = if b.sel = some i then w else 0 := by
  unfold pointRouters
  cases h : b.sel with
  | none => simp [Demultiplexer.output, Demultiplexer.setInputWord]
  | some j => simp [Demultiplexer.output, Demultiplexer.setInputWord, eq_comm]

/-- R31, R173: output `i` of the write demultiplexer is the word for the selected line and 0 for every other. -/
theorem MemoryBlock.pointRouters_writeDemux_output (b : MemoryBlock) (w : Word) (i : Nat) :
    (b.pointRouters.writeDemux.setInputWord w).output i = if b.sel = some i then w else 0 := by
  unfold pointRouters
  cases h : b.sel with
  | none => simp [Demultiplexer.output, Demultiplexer.setInputWord]
  | some j => simp [Demultiplexer.output, Demultiplexer.setInputWord, eq_comm]

@[simp] theorem MemoryBlock.broadcastControl_base (b : MemoryBlock) : b.broadcastControl.base = b.base := by
  simp [broadcastControl]
@[simp] theorem MemoryBlock.broadcastControl_cs (b : MemoryBlock) : b.broadcastControl.cs = b.cs := by
  simp [broadcastControl]
@[simp] theorem MemoryBlock.broadcastControl_we (b : MemoryBlock) : b.broadcastControl.we = b.we := by
  simp [broadcastControl]
@[simp] theorem MemoryBlock.broadcastControl_clk (b : MemoryBlock) : b.broadcastControl.clk = b.clk := by
  simp [broadcastControl]
@[simp] theorem MemoryBlock.broadcastControl_addr (b : MemoryBlock) : b.broadcastControl.addr = b.addr := by
  simp [broadcastControl]
@[simp] theorem MemoryBlock.broadcastControl_feed (b : MemoryBlock) : b.broadcastControl.feed = b.feed := by
  simp [broadcastControl]
@[simp] theorem MemoryBlock.broadcastControl_n (b : MemoryBlock) : b.broadcastControl.n = b.n := by
  simp [broadcastControl, MemoryBlock.n]
@[simp] theorem MemoryBlock.broadcastControl_sel (b : MemoryBlock) : b.broadcastControl.sel = b.sel := by
  simp [MemoryBlock.sel]

/-- R172: what the control broadcast does to each line. -/
theorem MemoryBlock.broadcastControl_getElem? (b : MemoryBlock) (i : Nat) :
    b.broadcastControl.lines[i]? = b.lines[i]?.map fun c =>
      if b.sel = some i then
        { c with
          cs := b.cs
          we := b.we
          clock := if b.we then b.clk else c.clock
          data := if b.we && b.clk && !c.clock then c.queued else c.data }
      else { c with cs := false, we := false } := by
  simp only [broadcastControl, List.getElem?_mapIdx, pointRouters_controlDemux_output]
  congr 1
  funext c
  split
  · exact RegisterCell.applyControl_pack _ _ _ _
  · exact RegisterCell.applyControl_zero _

@[simp] theorem MemoryBlock.broadcastData_base (b : MemoryBlock) : b.broadcastData.base = b.base := by
  simp [broadcastData]
@[simp] theorem MemoryBlock.broadcastData_cs (b : MemoryBlock) : b.broadcastData.cs = b.cs := by
  simp [broadcastData]
@[simp] theorem MemoryBlock.broadcastData_we (b : MemoryBlock) : b.broadcastData.we = b.we := by
  simp [broadcastData]
@[simp] theorem MemoryBlock.broadcastData_clk (b : MemoryBlock) : b.broadcastData.clk = b.clk := by
  simp [broadcastData]
@[simp] theorem MemoryBlock.broadcastData_addr (b : MemoryBlock) : b.broadcastData.addr = b.addr := by
  simp [broadcastData]
@[simp] theorem MemoryBlock.broadcastData_feed (b : MemoryBlock) : b.broadcastData.feed = b.feed := by
  simp [broadcastData]
@[simp] theorem MemoryBlock.broadcastData_n (b : MemoryBlock) : b.broadcastData.n = b.n := by
  simp [broadcastData, MemoryBlock.n]
@[simp] theorem MemoryBlock.broadcastData_sel (b : MemoryBlock) : b.broadcastData.sel = b.sel := by
  simp [MemoryBlock.sel]

/-- R173: what the data broadcast does to each line. -/
theorem MemoryBlock.broadcastData_getElem? (b : MemoryBlock) (i : Nat) :
    b.broadcastData.lines[i]? = b.lines[i]?.map fun c =>
      { c with queued := if b.sel = some i then b.feed else 0 } := by
  simp only [broadcastData, List.getElem?_mapIdx, pointRouters_writeDemux_output]
  rfl

/-- R31: following the selected line changes the routers only. -/
@[simp] theorem MemoryBlock.pointRouters_hideRouters (b : MemoryBlock) : b.pointRouters.hideRouters = b.hideRouters := by
  unfold pointRouters; split <;> rfl
@[simp] theorem MemoryBlock.refreshReadMux_hideRouters (i : Nat) (b : MemoryBlock) :
    (b.refreshReadMux i).hideRouters = b.hideRouters := rfl
@[simp] theorem MemoryBlock.pointRouters_n (b : MemoryBlock) : b.pointRouters.n = b.n := by simp [MemoryBlock.n]

/-- R31: where the routers already hold their copies, following the selected line changes nothing. -/
theorem MemoryBlock.pointRouters_eq_self {b : MemoryBlock} (h : b.RoutersCopy) : b.pointRouters = b := by
  obtain ⟨-, -, hc, hw, hs⟩ := h
  unfold pointRouters
  cases hsel : b.sel with
  | none =>
    rw [hsel] at hc hw
    obtain ⟨_, _, _, _, _, _, _, ⟨_, _, _, _⟩, ⟨_, _, _, _⟩, _⟩ := b
    simp_all
  | some i =>
    rw [hsel] at hc hw
    have hi : i < b.lines.length := by
      unfold MemoryBlock.sel localLine at hsel
      split at hsel
      · next h => simp only [Option.some.injEq] at hsel; change _ ∧ _ < _ + b.lines.length at h; omega
      · cases hsel
    obtain ⟨h1, h2, h3⟩ := hs i hi hsel
    obtain ⟨_, _, _, _, _, _, _, ⟨_, _, _, _⟩, ⟨_, _, _, _⟩, ⟨_, _, _⟩⟩ := b
    simp_all

/-- R179: what a block's read can answer. -/
theorem MemoryBlock.readWord_eq_ok {b b' : MemoryBlock} {w : Word} (h : b.readWord = .ok (w, b')) :
    (b.cs = false ∧ w = 0 ∧ b' = b.pointRouters) ∨
    (b.cs = true ∧ ∃ i, b.sel = some i ∧ w = (b.lines[i]?.getD RegisterCell.construct).read ∧
      b' = b.pointRouters.refreshReadMux i) := by
  unfold readWord at h
  cases hc : b.cs with
  | false => simp only [hc, Bool.false_eq_true, ↓reduceIte, Except.ok.injEq, Prod.mk.injEq] at h; exact .inl ⟨rfl, h.1.symm, h.2.symm⟩
  | true =>
    simp only [hc, ↓reduceIte] at h
    cases hs : b.sel with
    | none => simp [hs] at h
    | some i =>
      simp only [hs, Except.ok.injEq, Prod.mk.injEq] at h
      exact .inr ⟨rfl, i, rfl, h.1.symm, h.2.symm⟩

/-- R179: when a block's read faults. -/
theorem MemoryBlock.readWord_eq_error {b : MemoryBlock} {f : Fault} (h : b.readWord = .error f) :
    b.cs = true ∧ b.sel = none ∧ f = .selectorOutOfRange b.addr := by
  unfold readWord at h
  cases hc : b.cs with
  | false => simp [hc] at h
  | true =>
    simp only [hc, ↓reduceIte] at h
    cases hs : b.sel with
    | none => simp only [hs, Except.error.injEq] at h; exact ⟨rfl, rfl, h.symm⟩
    | some i => simp [hs] at h

/-- R65, R179: a block's read changes nothing but its routers' copies. -/
theorem MemoryBlock.readWord_hideRouters {b b' : MemoryBlock} {w : Word} (h : b.readWord = .ok (w, b')) :
    b'.hideRouters = b.hideRouters := by
  obtain ⟨-, -, rfl⟩ | ⟨-, i, -, -, rfl⟩ := readWord_eq_ok h <;> simp

/-- R31, R65: where the routers hold their copies, a block's read changes the read multiplexer's inputs and no more. -/
theorem MemoryBlock.readWord_eq_ok_of_copy {b b' : MemoryBlock} {w : Word} (hb : b.RoutersCopy)
    (h : b.readWord = .ok (w, b')) : b' = b ∨ ∃ i, b.sel = some i ∧ b' = b.refreshReadMux i := by
  obtain ⟨-, -, rfl⟩ | ⟨-, i, hs, -, rfl⟩ := readWord_eq_ok h <;> rw [pointRouters_eq_self hb]
  · exact .inl rfl
  · exact .inr ⟨i, hs, rfl⟩

/-! ## Drivers -/

/-- R197: the scan answers the block whose cumulative range holds the address. -/
theorem scanBlocks_eq_some {sizes : List Nat} {acc k : Nat} {a : Nat} {b : Nat} (ha : acc ≤ a) :
    scanBlocks sizes acc k a = some b ↔
      k ≤ b ∧ b - k < sizes.length ∧ acc + (sizes.take (b - k)).sum ≤ a ∧ a < acc + (sizes.take (b - k + 1)).sum := by
  induction sizes generalizing acc k with
  | nil => simp [scanBlocks]
  | cons n rest ih =>
    simp only [scanBlocks]
    split
    · next hgt =>
      simp only [Option.some.injEq]
      constructor
      · rintro rfl; simp; omega
      · rintro ⟨hk, -, hlo, -⟩
        by_contra hne
        obtain ⟨m, hm⟩ : ∃ m, b - k = m + 1 := ⟨b - k - 1, by omega⟩
        rw [hm] at hlo
        simp only [List.take_succ_cons, List.sum_cons] at hlo
        omega
    · next hle =>
      rw [ih (by omega)]
      constructor
      · rintro ⟨hk, hlen, hlo, hhi⟩
        have hm : b - k = (b - (k + 1)) + 1 := by omega
        rw [hm]
        simp only [List.length_cons, List.take_succ_cons, List.sum_cons]
        omega
      · rintro ⟨hk, hlen, hlo, hhi⟩
        have hne : b ≠ k := by
          rintro rfl
          simp at hhi
          omega
        have hm : b - k = (b - (k + 1)) + 1 := by omega
        rw [hm] at hlen hlo hhi
        simp only [List.length_cons, List.take_succ_cons, List.sum_cons] at hlen hlo hhi
        omega

/-- R197: the scan fails exactly beyond the last line. -/
theorem scanBlocks_eq_none {sizes : List Nat} {acc k : Nat} {a : Nat} (ha : acc ≤ a) :
    scanBlocks sizes acc k a = none ↔ acc + sizes.sum ≤ a := by
  induction sizes generalizing acc k with
  | nil => simpa [scanBlocks]
  | cons n rest ih =>
    simp only [scanBlocks, List.sum_cons]
    split
    · next hgt => simp only [reduceCtorEq, false_iff]; omega
    · next hle => rw [ih (by omega)]; omega

/-- R196: what a driver's read can answer. -/
theorem Driver.readWord_eq_ok {d d' : Driver} {w : Word} (h : d.readWord = .ok (w, d')) :
    ∃ k block, owningBlock d.sizes d.addr = some k ∧
      (d.blocks[k]?.getD (MemoryBlock.construct 0 0)).readWord = .ok (w, block) ∧
      d' = { d with blocks := d.blocks.set k block } := by
  unfold readWord determineBlockIndex at h
  cases ho : owningBlock d.sizes d.addr with
  | none => simp [ho] at h
  | some k =>
    simp only [ho] at h
    cases hr : (d.blocks[k]?.getD (MemoryBlock.construct 0 0)).readWord with
    | error f => simp only [hr] at h; cases h
    | ok r =>
      obtain ⟨w', block⟩ := r
      simp only [hr, Except.ok.injEq, Prod.mk.injEq] at h
      obtain ⟨rfl, rfl⟩ := h
      exact ⟨k, block, rfl, hr, rfl⟩

/-- R196: when a driver's read faults. -/
theorem Driver.readWord_eq_error {d : Driver} {f : Fault} (h : d.readWord = .error f) :
    (owningBlock d.sizes d.addr = none ∧ f = .addressOutOfRange d.addr) ∨
    (∃ k, owningBlock d.sizes d.addr = some k ∧
      (d.blocks[k]?.getD (MemoryBlock.construct 0 0)).readWord = .error f) := by
  unfold readWord determineBlockIndex at h
  cases ho : owningBlock d.sizes d.addr with
  | none => simp only [ho, Except.error.injEq] at h; exact .inl ⟨rfl, h.symm⟩
  | some k =>
    simp only [ho] at h
    cases hr : (d.blocks[k]?.getD (MemoryBlock.construct 0 0)).readWord with
    | error g => simp only [hr, Except.error.injEq] at h; subst h; exact .inr ⟨k, rfl, hr⟩
    | ok r => simp [hr] at h

/-! ## Controllers -/

/-- R214: what the controller's clock operation can do. -/
theorem Controller.setClock_eq_ok {level : Bit} {k k' : Controller} (h : k.setClock level = .ok k') :
    (level = k.clock ∧ k' = k) ∨
    (level = true ∧ k.clock = false ∧ ∃ w d', (k.driver.applyRequest k.focused true).readWord = .ok (w, d') ∧
      k' = { k with driver := d', queue := k.queue.set k.focus { k.focused with response := w }, clock := true }) ∨
    (level = false ∧ k.clock = true ∧
      k' = { k with
        driver := k.driver.applyRequest k.focused false
        focus := (k.focus + 1) % k.coreCount
        clock := false }) := by
  unfold setClock at h
  split at h
  · next he => exact .inl ⟨he, by simpa using h.symm⟩
  · next he =>
    cases level with
    | false =>
      have hk : k.clock = true := by simpa using he
      exact .inr (.inr ⟨rfl, hk, by simpa using h.symm⟩)
    | true =>
      have hk : k.clock = false := by simpa using he
      simp only [↓reduceIte] at h
      cases hr : (k.driver.applyRequest k.focused true).readWord with
      | error f => simp only [hr] at h; cases h
      | ok r =>
        obtain ⟨w, d'⟩ := r
        simp only [hr, Except.ok.injEq] at h
        exact .inr (.inl ⟨rfl, hk, w, d', rfl, h.symm⟩)

/-- R214, R221: when the controller's clock operation faults. -/
theorem Controller.setClock_eq_error {level : Bit} {k : Controller} {f : Fault} (h : k.setClock level = .error f) :
    level = true ∧ k.clock = false ∧ (k.driver.applyRequest k.focused true).readWord = .error f := by
  unfold setClock at h
  split at h
  · cases h
  · next he =>
    cases level with
    | false => simp at h
    | true =>
      have hk : k.clock = false := by simpa using he
      simp only [↓reduceIte] at h
      cases hr : (k.driver.applyRequest k.focused true).readWord with
      | error g => simp only [hr, Except.error.injEq] at h; subst h; exact ⟨rfl, hk, rfl⟩
      | ok r => simp [hr] at h

/-! ## Fetching -/

/-- R95, R97, R98: the tuples that are accepted, and the operation each is accepted as. -/
theorem acceptRecord_eq_ok {s : State} {r : Record} {i : Instr} :
    acceptRecord s r = .ok i ↔
      decodeRecord r = .ok i ∧ i.WellFormed s.widths s.ctl.coreCount s.fixture = true := by
  unfold acceptRecord Instr.WellFormed
  cases hd : decodeRecord r with
  | error e => simp
  | ok j =>
    simp only [Except.ok.injEq]
    constructor
    · intro h
      split at h
      · cases h
      · next hc => cases h; simp [hc]
    · rintro ⟨rfl, h⟩
      split
      · next hc => simp [hc] at h
      · rfl

/-- R94: the issued records that are accepted. -/
theorem acceptIssued_eq_ok {s : State} {x : IssuedRecord} {i : Instr} :
    acceptIssued s x = .ok i ↔
      (∀ w, x = .packed w → s.hasPackedForm = true) ∧ decodeRecord x.record = .ok i ∧
        i.WellFormed s.widths s.ctl.coreCount s.fixture = true := by
  cases x with
  | tuple r => simpa [acceptIssued, IssuedRecord.record] using acceptRecord_eq_ok
  | packed w =>
    cases hp : s.hasPackedForm <;> simp [acceptIssued, IssuedRecord.record, hp, acceptRecord_eq_ok]

/-- R50, R277: a fetch gives an operation exactly when the head of the caller's list is accepted as it. -/
theorem fetch_eq_operation {s : State} {i : Instr} {rest : List IssuedRecord} :
    fetch s = .operation i rest ↔ ∃ x, s.program = x :: rest ∧ acceptIssued s x = .ok i := by
  unfold fetch
  cases hp : s.program with
  | nil => simp
  | cons x xs =>
    cases ha : acceptIssued s x with
    | error e => simp [ha]
    | ok j =>
      simp only [ha, Fetched.operation.injEq, List.cons.injEq]
      constructor
      · rintro ⟨rfl, rfl⟩; exact ⟨x, ⟨rfl, rfl⟩, ha⟩
      · rintro ⟨y, ⟨rfl, rfl⟩, hy⟩; rw [ha] at hy; cases hy; exact ⟨rfl, rfl⟩

/-- R4, R277: what a step can answer as its next state: the same state where the list is exhausted, or what the operation at
its head answers on the state whose list has moved past it. -/
theorem step_eq_next {s t : State} (h : step s = .next t) :
    s.status = .noFault ∧ ((s.program = [] ∧ t = s) ∨
      ∃ x rest i, s.program = x :: rest ∧ acceptIssued s x = .ok i ∧ exec i (s.putProgram rest) = .next t) := by
  unfold step at h
  cases hs : s.status with
  | faulted f => rw [hs] at h; cases h
  | noFault =>
    rw [hs] at h
    refine ⟨rfl, ?_⟩
    cases hf : fetch s with
    | idle =>
      rw [hf] at h
      refine .inl ⟨?_, by cases h; rfl⟩
      unfold fetch at hf
      cases hp : s.program with
      | nil => rfl
      | cons x xs => rw [hp] at hf; simp only at hf; split at hf <;> cases hf
    | refusal r => rw [hf] at h; cases h
    | operation i rest =>
      rw [hf] at h
      obtain ⟨x, hx, ha⟩ := fetch_eq_operation.mp hf
      exact .inr ⟨x, rest, i, hx, ha, h⟩

end Sys2Proof.Machine
end

