-- ==== Sys2Proof/Laws/Memory.lean ====
section
/-! SUPPORT. Every memory operation keeps the form of a driver's memory (`Memory.wf`, 20_memory.md R66), and
construction and reset have it. -/

namespace Sys2Proof.Machine

/-! ## The five setters keep a block's place in the address space -/

@[simp] theorem MemoryBlock.setChipSelect_base (l : Bit) (b : MemoryBlock) : (b.setChipSelect l).base = b.base := by
  simp [setChipSelect]
@[simp] theorem MemoryBlock.setChipSelect_n (l : Bit) (b : MemoryBlock) : (b.setChipSelect l).n = b.n := by
  simp [setChipSelect, MemoryBlock.n, broadcastControl]
@[simp] theorem MemoryBlock.setWriteEnable_base (l : Bit) (b : MemoryBlock) : (b.setWriteEnable l).base = b.base := by
  simp [setWriteEnable]
@[simp] theorem MemoryBlock.setWriteEnable_n (l : Bit) (b : MemoryBlock) : (b.setWriteEnable l).n = b.n := by
  simp [setWriteEnable, MemoryBlock.n, broadcastControl]
@[simp] theorem MemoryBlock.setClock_base (l : Bit) (b : MemoryBlock) : (b.setClock l).base = b.base := by
  simp [setClock]
@[simp] theorem MemoryBlock.setClock_n (l : Bit) (b : MemoryBlock) : (b.setClock l).n = b.n := by
  simp [setClock, MemoryBlock.n, broadcastControl]
@[simp] theorem MemoryBlock.setAddress_base (a : Nat) (b : MemoryBlock) : (b.setAddress a).base = b.base := by
  simp [setAddress]
@[simp] theorem MemoryBlock.setAddress_n (a : Nat) (b : MemoryBlock) : (b.setAddress a).n = b.n := by
  simp [setAddress, MemoryBlock.n, broadcastControl]
@[simp] theorem MemoryBlock.setFeed_base (w : Word) (b : MemoryBlock) : (b.setFeed w).base = b.base := by
  simp [setFeed]
@[simp] theorem MemoryBlock.setFeed_n (w : Word) (b : MemoryBlock) : (b.setFeed w).n = b.n := by
  simp [setFeed, MemoryBlock.n, broadcastData]

/-- R179: a read keeps a block's base and its lines. -/
theorem MemoryBlock.readWord_base_n {b b' : MemoryBlock} {w : Word} (h : b.readWord = .ok (w, b')) :
    b'.base = b.base ∧ b'.n = b.n := by
  obtain ⟨-, -, rfl⟩ | ⟨-, i, -, -, rfl⟩ := readWord_eq_ok h
  · simp
  · exact ⟨pointRouters_base b, pointRouters_n b⟩

/-! ## The form of a driver's memory -/

/-- A change of every block that moves none of them keeps the blocks one after the other. -/
theorem contiguousFrom_map {f : MemoryBlock → MemoryBlock} (hbase : ∀ b, (f b).base = b.base)
    (hn : ∀ b, (f b).n = b.n) (base : Nat) (blocks : List MemoryBlock) :
    contiguousFrom base (blocks.map f) = contiguousFrom base blocks := by
  induction blocks generalizing base with
  | nil => rfl
  | cons b rest ih => simp [contiguousFrom, hbase, hn, ih]

/-- A change of one block that does not move it keeps the blocks one after the other. -/
theorem contiguousFrom_set {blocks : List MemoryBlock} {k : Nat} {b' : MemoryBlock}
    (h : ∀ b, blocks[k]? = some b → b'.base = b.base ∧ b'.n = b.n) (base : Nat) :
    contiguousFrom base (blocks.set k b') = contiguousFrom base blocks := by
  induction blocks generalizing base k with
  | nil => rfl
  | cons b rest ih =>
    cases k with
    | zero =>
      obtain ⟨hb, hn⟩ := h b rfl
      simp [contiguousFrom, hb, hn]
    | succ k => simp [contiguousFrom, ih (k := k) fun x hx => h x hx]

/-- R190: a constructed driver has the form. -/
theorem contiguousFrom_constructBlocks (base : Nat) (sizes : List Nat) :
    contiguousFrom base (constructBlocks base sizes) = true := by
  induction sizes generalizing base with
  | nil => rfl
  | cons n rest ih =>
    have hn : (MemoryBlock.construct base n).n = n := by simp [MemoryBlock.n, MemoryBlock.construct]
    have hb : (MemoryBlock.construct base n).base = base := rfl
    simp [constructBlocks, contiguousFrom, hn, hb, ih]

theorem Driver.construct_wf (sizes : List Nat) : Memory.wf (Driver.construct sizes).blocks = true :=
  contiguousFrom_constructBlocks 0 sizes

@[simp] theorem Driver.setChipSelect_wf (l : Bit) (d : Driver) :
    Memory.wf (d.setChipSelect l).blocks = Memory.wf d.blocks :=
  contiguousFrom_map (by simp) (by simp) 0 d.blocks

@[simp] theorem Driver.setWriteEnable_wf (l : Bit) (d : Driver) :
    Memory.wf (d.setWriteEnable l).blocks = Memory.wf d.blocks :=
  contiguousFrom_map (by simp) (by simp) 0 d.blocks

@[simp] theorem Driver.setClock_wf (l : Bit) (d : Driver) : Memory.wf (d.setClock l).blocks = Memory.wf d.blocks :=
  contiguousFrom_map (by simp) (by simp) 0 d.blocks

@[simp] theorem Driver.setAddress_wf (a : Nat) (d : Driver) : Memory.wf (d.setAddress a).blocks = Memory.wf d.blocks :=
  contiguousFrom_map (by simp) (by simp) 0 d.blocks

@[simp] theorem Driver.setFeed_wf (w : Word) (d : Driver) : Memory.wf (d.setFeed w).blocks = Memory.wf d.blocks :=
  contiguousFrom_map (by simp) (by simp) 0 d.blocks

@[simp] theorem Driver.applyRequest_wf (q : QueueRecord) (level : Bit) (d : Driver) :
    Memory.wf (d.applyRequest q level).blocks = Memory.wf d.blocks := by
  simp [applyRequest]

theorem Driver.readWord_wf {d d' : Driver} {w : Word} (h : d.readWord = .ok (w, d')) :
    Memory.wf d'.blocks = Memory.wf d.blocks := by
  obtain ⟨k, block, -, hr, rfl⟩ := readWord_eq_ok h
  refine contiguousFrom_set (fun b hb => ?_) 0
  rw [hb] at hr
  exact MemoryBlock.readWord_base_n hr

theorem Controller.setClock_wf {level : Bit} {k k' : Controller} (h : k.setClock level = .ok k') :
    Memory.wf k'.driver.blocks = Memory.wf k.driver.blocks := by
  obtain ⟨-, rfl⟩ | ⟨-, -, w, d', hr, rfl⟩ | ⟨-, -, rfl⟩ := setClock_eq_ok h
  · rfl
  · simpa using Driver.readWord_wf hr
  · simp

/-- R66: the memories of the state after construction have the form, for every topology. -/
theorem construct_memory_wf (c : Config) :
    Memory.wf (State.construct c).drv.blocks = true ∧ Memory.wf (State.construct c).ctl.driver.blocks = true :=
  ⟨Driver.construct_wf _, Driver.construct_wf _⟩

/-- R66: the memories of the state after reset have the form. -/
theorem reset_memory_wf :
    Memory.wf State.reset.drv.blocks = true ∧ Memory.wf State.reset.ctl.driver.blocks = true :=
  construct_memory_wf _

end Sys2Proof.Machine
end

