-- ==== Sys2Proof/Laws/PerInstr.lean ====
section
/-! SUPPORT. The family `DecodeEncode`: the tuple of an operation decodes to that operation (30_encoding.md R93, R96), one lemma
for each constructor. -/

namespace Sys2Proof.Laws

/-- The family: decoding the encoded tuple gives the operation back. -/
def DecodeEncode.Statement (i : Instr) : Prop := decodeRecord (encodeRecord i) = .ok i

theorem DecodeEncode.srlSet (w : Word) : DecodeEncode.Statement (.srlSet w) := rfl
theorem DecodeEncode.srlReset : DecodeEncode.Statement .srlReset := rfl
theorem DecodeEncode.srlRead : DecodeEncode.Statement .srlRead := rfl
theorem DecodeEncode.dffSetData (w : Word) : DecodeEncode.Statement (.dffSetData w) := rfl
theorem DecodeEncode.dffSetClock (l : Bit) : DecodeEncode.Statement (.dffSetClock l) := by cases l <;> rfl
theorem DecodeEncode.dffReset : DecodeEncode.Statement .dffReset := rfl
theorem DecodeEncode.dffRead : DecodeEncode.Statement .dffRead := rfl
theorem DecodeEncode.srffSetSetQueue (l : Bit) : DecodeEncode.Statement (.srffSetSetQueue l) := by cases l <;> rfl
theorem DecodeEncode.srffSetResetQueue (l : Bit) : DecodeEncode.Statement (.srffSetResetQueue l) := by cases l <;> rfl
theorem DecodeEncode.srffSetClock (l : Bit) : DecodeEncode.Statement (.srffSetClock l) := by cases l <;> rfl
theorem DecodeEncode.srffRead : DecodeEncode.Statement .srffRead := rfl
theorem DecodeEncode.tffSetInputQueue (l : Bit) : DecodeEncode.Statement (.tffSetInputQueue l) := by cases l <;> rfl
theorem DecodeEncode.tffSetClock (l : Bit) : DecodeEncode.Statement (.tffSetClock l) := by cases l <;> rfl
theorem DecodeEncode.tffRead : DecodeEncode.Statement .tffRead := rfl
theorem DecodeEncode.muxSetInputWord (i : Nat) (w : Word) : DecodeEncode.Statement (.muxSetInputWord i w) := rfl
theorem DecodeEncode.muxSetSelector (a : Nat) : DecodeEncode.Statement (.muxSetSelector a) := rfl
theorem DecodeEncode.muxSetChipSelect (l : Bit) : DecodeEncode.Statement (.muxSetChipSelect l) := by cases l <;> rfl
theorem DecodeEncode.muxIsNarrow : DecodeEncode.Statement .muxIsNarrow := rfl
theorem DecodeEncode.muxRead : DecodeEncode.Statement .muxRead := rfl
theorem DecodeEncode.dmxSetInputWord (w : Word) : DecodeEncode.Statement (.dmxSetInputWord w) := rfl
theorem DecodeEncode.dmxSetChipSelect (l : Bit) : DecodeEncode.Statement (.dmxSetChipSelect l) := by cases l <;> rfl
theorem DecodeEncode.dmxSetSelector (a : Nat) : DecodeEncode.Statement (.dmxSetSelector a) := rfl
theorem DecodeEncode.dmxIsNarrow : DecodeEncode.Statement .dmxIsNarrow := rfl
theorem DecodeEncode.dmxRead (i : Nat) : DecodeEncode.Statement (.dmxRead i) := rfl
theorem DecodeEncode.cellSetInput (w : Word) : DecodeEncode.Statement (.cellSetInput w) := rfl
theorem DecodeEncode.cellSetChipSelect (l : Bit) : DecodeEncode.Statement (.cellSetChipSelect l) := by cases l <;> rfl
theorem DecodeEncode.cellSetWriteEnable (l : Bit) : DecodeEncode.Statement (.cellSetWriteEnable l) := by cases l <;> rfl
theorem DecodeEncode.cellSetClock (l : Bit) : DecodeEncode.Statement (.cellSetClock l) := by cases l <;> rfl
theorem DecodeEncode.cellRead : DecodeEncode.Statement .cellRead := rfl
theorem DecodeEncode.blkSetChipSelect (l : Bit) : DecodeEncode.Statement (.blkSetChipSelect l) := by cases l <;> rfl
theorem DecodeEncode.blkSetWriteEnable (l : Bit) : DecodeEncode.Statement (.blkSetWriteEnable l) := by cases l <;> rfl
theorem DecodeEncode.blkSetClock (l : Bit) : DecodeEncode.Statement (.blkSetClock l) := by cases l <;> rfl
theorem DecodeEncode.blkSetAddress (a : Nat) : DecodeEncode.Statement (.blkSetAddress a) := rfl
theorem DecodeEncode.blkSetFeed (w : Word) : DecodeEncode.Statement (.blkSetFeed w) := rfl
theorem DecodeEncode.blkReadWord : DecodeEncode.Statement .blkReadWord := rfl
theorem DecodeEncode.drvSetChipSelect (l : Bit) : DecodeEncode.Statement (.drvSetChipSelect l) := by cases l <;> rfl
theorem DecodeEncode.drvSetWriteEnable (l : Bit) : DecodeEncode.Statement (.drvSetWriteEnable l) := by cases l <;> rfl
theorem DecodeEncode.drvSetAddress (a : Nat) : DecodeEncode.Statement (.drvSetAddress a) := rfl
theorem DecodeEncode.drvSetClock (l : Bit) : DecodeEncode.Statement (.drvSetClock l) := by cases l <;> rfl
theorem DecodeEncode.drvReadWord : DecodeEncode.Statement .drvReadWord := rfl
theorem DecodeEncode.drvDetermineBlockIndex (a : Nat) : DecodeEncode.Statement (.drvDetermineBlockIndex a) := rfl
theorem DecodeEncode.drvSetFeed (w : Word) : DecodeEncode.Statement (.drvSetFeed w) := rfl
theorem DecodeEncode.drvAddressWidth : DecodeEncode.Statement .drvAddressWidth := rfl
theorem DecodeEncode.ctlSetChipSelect (c : Nat) (l : Bit) : DecodeEncode.Statement (.ctlSetChipSelect c l) := by cases l <;> rfl
theorem DecodeEncode.ctlSetWriteEnable (c : Nat) (l : Bit) : DecodeEncode.Statement (.ctlSetWriteEnable c l) := by cases l <;> rfl
theorem DecodeEncode.ctlSetAddress (c : Nat) (a : Nat) : DecodeEncode.Statement (.ctlSetAddress c a) := rfl
theorem DecodeEncode.ctlSetFeed (c : Nat) (w : Word) : DecodeEncode.Statement (.ctlSetFeed c w) := rfl
theorem DecodeEncode.ctlSetClock (l : Bit) : DecodeEncode.Statement (.ctlSetClock l) := by cases l <;> rfl
theorem DecodeEncode.ctlReadResponse (c : Nat) : DecodeEncode.Statement (.ctlReadResponse c) := rfl

end Sys2Proof.Laws
end

