-- ==== Sys2Proof/Tests/Slice0.lean ====
section
/-! SUPPORT. The model's own tests. Expected values are taken from the worked examples of spec/ (95_test_vectors.md S, V, H, K
and the Example clauses of the operation rules), which each docstring names; words are written out from the opcode map of
30_encoding.md R96. The last sections give every statement that has hypotheses a concrete case that meets them. -/

namespace Sys2Proof.Tests

open Sys2Proof Sys2Proof.Machine

/-! ## Helpers -/

/-- 95_test_vectors.md: its parameters for a block of 8, a driver `[3, 5, 2]` and two cores. -/
def config : Config :=
  { Config.reference with widths := { wordBits := 8, addrBits := 16 }, coreCount := 2 }

/-- The state those vectors start from. -/
def fresh : State := State.construct config

/-- The next state, where there is one. -/
def nextOf (r : Result State) : Option State :=
  match r with
  | .next t => some t
  | .fault _ => none
  | .refused _ => none

/-- The fault, where there is one. -/
def faultOf (r : Result State) : Option Fault :=
  match r with
  | .next _ => none
  | .fault f => some f
  | .refused _ => none

/-- The refusal, where there is one. -/
def refusalOf (r : Result State) : Option Refusal :=
  match r with
  | .next _ => none
  | .fault _ => none
  | .refused e => some e

/-- The values returned by a step, where it completes. -/
def returns (i : Instr) (s : State) : Option (List Value) := (nextOf (exec i s)).map State.returned

/-- A block whose write-enable and clock are as given, at an address. -/
def blockAt (a : Nat) (we clk : Bit) : MemoryBlock :=
  { MemoryBlock.construct 0 8 with we := we, clk := clk, addr := a }

/-- A block with one line replaced. -/
def withLine (i : Nat) (c : RegisterCell) (b : MemoryBlock) : MemoryBlock := { b with lines := b.lines.set i c }

/-- A state with its block, its driver or its controller replaced. -/
def atBlock (b : MemoryBlock) : State := { fresh with blk := b }

def atDriver (d : Driver) : State := { fresh with drv := d }

def atController (k : Controller) : State := { fresh with ctl := k }

/-- The data words of the block after an operation. -/
def blockData (i : Instr) (b : MemoryBlock) : Option (List Word) :=
  (nextOf (exec i (atBlock b))).map fun t => t.blk.lines.map RegisterCell.data

/-! ## WellFormed: each check refuses a term that fails it -/

theorem test_wellformed_wrong_kind :
    checkOperation ⟨8, 16⟩ 2 .dff (.srlSet 0) = .error (.wrongKind .srl) := rfl

/-- V44: `0x8400000000000142` with `WORD_BITS = 8`. -/
theorem test_wellformed_word_too_wide :
    checkOperation ⟨8, 16⟩ 2 .blk (.blkSetFeed 0x142) = .error (.wordTooWide 0x142) := by decide

theorem test_wellformed_sel_too_wide :
    checkOperation ⟨8, 16⟩ 2 .drv (.drvSetAddress 65536) = .error (.selTooWide 65536) := by decide

/-- R95: an index fits `min(ADDR_BITS, 24)` bits, in a tuple too. -/
theorem test_wellformed_index_too_wide :
    checkOperation ⟨8, 16⟩ 2 .dmx (.dmxRead 65536) = .error (.indexTooWide 65536) ∧
    checkOperation ⟨32, 32⟩ 2 .dmx (.dmxRead (2 ^ 24)) = .error (.indexTooWide (2 ^ 24)) ∧
    checkOperation ⟨32, 32⟩ 2 .dmx (.dmxRead (2 ^ 24 - 1)) = .ok () := by decide

/-- R94: the largest widths with a packed form, and the first without; the core count of a controller. -/
theorem test_packed_form_limits :
    hasPackedForm ⟨32, 32⟩ (2 ^ 24) [2 ^ 24] = true ∧ hasPackedForm ⟨33, 32⟩ 0 [] = false ∧
    hasPackedForm ⟨32, 33⟩ 0 [] = false ∧ hasPackedForm ⟨32, 32⟩ (2 ^ 24 + 1) [] = false ∧
    hasPackedForm ⟨32, 32⟩ 0 [8, 2 ^ 24 + 1] = false := by decide

/-- V44: `0xA000000200000001` against a controller with two cores. -/
theorem test_wellformed_core_id_out_of_range :
    checkOperation ⟨8, 16⟩ 2 .ctl (.ctlSetChipSelect 2 true) = .error (.coreIdOutOfRange 2) := by decide

theorem test_wellformed_no_word_bits :
    checkConfig { config with widths := ⟨0, 16⟩ } = .error .noWordBits := by decide

theorem test_wellformed_no_addr_bits :
    checkConfig { config with widths := ⟨8, 0⟩ } = .error .noAddrBits := by decide

theorem test_wellformed_empty_multiplexer :
    checkConfig { config with muxInputs := 0 } = .error .emptyMultiplexer := by decide

theorem test_wellformed_empty_demultiplexer :
    checkConfig { config with dmxOutputs := 0 } = .error .emptyDemultiplexer := by decide

theorem test_wellformed_empty_block :
    checkConfig { config with blkLines := 0 } = .error .emptyBlock ∧
    checkConfig { config with drvBlocks := [3, 0] } = .error .emptyBlock := by decide

theorem test_wellformed_no_blocks :
    checkConfig { config with drvBlocks := [] } = .error .noBlocks := by decide

theorem test_wellformed_no_cores :
    checkConfig { config with coreCount := 0 } = .error .noCores := by decide

theorem test_wellformed_unaddressable_lines :
    checkConfig { config with widths := ⟨8, 2⟩ } = .error .unaddressableLines := by decide

/-- A `Sel` inside `ADDR_BITS` but outside every line is a well-formed operand (R98, R235). -/
theorem test_wellformed_accepts_out_of_range_address :
    checkOperation ⟨8, 16⟩ 2 .drv (.drvSetAddress 65535) = .ok () := by decide

/-! ## Decoding: every operation's word, written out from the opcode map of R96 and the fields of R94 -/

theorem test_decode_srl :
    decodeWord 0x1000000000000042 = .ok (.srlSet 0x42) ∧ decodeWord 0x1100000000000000 = .ok .srlReset ∧
    decodeWord 0x1200000000000000 = .ok .srlRead := by decide

theorem test_decode_dff :
    decodeWord 0x20000000FFFFFFFF = .ok (.dffSetData 0xFFFFFFFF) ∧
    decodeWord 0x2100000000000001 = .ok (.dffSetClock true) ∧
    decodeWord 0x2100000000000000 = .ok (.dffSetClock false) ∧ decodeWord 0x2200000000000000 = .ok .dffReset ∧
    decodeWord 0x2300000000000000 = .ok .dffRead := by decide

theorem test_decode_srff :
    decodeWord 0x3000000000000001 = .ok (.srffSetSetQueue true) ∧
    decodeWord 0x3100000000000001 = .ok (.srffSetResetQueue true) ∧
    decodeWord 0x3200000000000001 = .ok (.srffSetClock true) ∧ decodeWord 0x3300000000000000 = .ok .srffRead := by
  decide

theorem test_decode_tff :
    decodeWord 0x4000000000000001 = .ok (.tffSetInputQueue true) ∧
    decodeWord 0x4100000000000000 = .ok (.tffSetClock false) ∧ decodeWord 0x4200000000000000 = .ok .tffRead := by
  decide

theorem test_decode_mux :
    decodeWord 0x5000000200000099 = .ok (.muxSetInputWord 2 0x99) ∧
    decodeWord 0x5100000000000003 = .ok (.muxSetSelector 3) ∧
    decodeWord 0x5200000000000001 = .ok (.muxSetChipSelect true) ∧ decodeWord 0x5300000000000000 = .ok .muxIsNarrow ∧
    decodeWord 0x5400000000000000 = .ok .muxRead := by decide

theorem test_decode_dmx :
    decodeWord 0x6000000000000042 = .ok (.dmxSetInputWord 0x42) ∧
    decodeWord 0x6100000000000001 = .ok (.dmxSetChipSelect true) ∧
    decodeWord 0x6200000000000002 = .ok (.dmxSetSelector 2) ∧ decodeWord 0x6300000000000000 = .ok .dmxIsNarrow ∧
    decodeWord 0x64FFFFFF00000000 = .ok (.dmxRead 0xFFFFFF) := by decide

theorem test_decode_cell :
    decodeWord 0x7000000000000042 = .ok (.cellSetInput 0x42) ∧
    decodeWord 0x7100000000000001 = .ok (.cellSetChipSelect true) ∧
    decodeWord 0x7200000000000001 = .ok (.cellSetWriteEnable true) ∧
    decodeWord 0x7300000000000001 = .ok (.cellSetClock true) ∧ decodeWord 0x7400000000000000 = .ok .cellRead := by
  decide

theorem test_decode_blk :
    decodeWord 0x8000000000000001 = .ok (.blkSetChipSelect true) ∧
    decodeWord 0x8100000000000001 = .ok (.blkSetWriteEnable true) ∧
    decodeWord 0x8200000000000001 = .ok (.blkSetClock true) ∧ decodeWord 0x8300000000000003 = .ok (.blkSetAddress 3) ∧
    decodeWord 0x8400000000000142 = .ok (.blkSetFeed 0x142) ∧ decodeWord 0x8500000000000000 = .ok .blkReadWord := by
  decide

theorem test_decode_drv :
    decodeWord 0x9000000000000001 = .ok (.drvSetChipSelect true) ∧
    decodeWord 0x9100000000000001 = .ok (.drvSetWriteEnable true) ∧
    decodeWord 0x9200000000000400 = .ok (.drvSetAddress 1024) ∧
    decodeWord 0x9300000000000001 = .ok (.drvSetClock true) ∧ decodeWord 0x9400000000000000 = .ok .drvReadWord ∧
    decodeWord 0x9500000000000400 = .ok (.drvDetermineBlockIndex 1024) ∧
    decodeWord 0x9600000000000042 = .ok (.drvSetFeed 0x42) ∧ decodeWord 0x9700000000000000 = .ok .drvAddressWidth := by
  decide

theorem test_decode_ctl :
    decodeWord 0xA000000200000001 = .ok (.ctlSetChipSelect 2 true) ∧
    decodeWord 0xA100000100000000 = .ok (.ctlSetWriteEnable 1 false) ∧
    decodeWord 0xA200000100000003 = .ok (.ctlSetAddress 1 3) ∧
    decodeWord 0xA300000100000099 = .ok (.ctlSetFeed 1 0x99) ∧
    decodeWord 0xA400000000000001 = .ok (.ctlSetClock true) ∧
    decodeWord 0xA500000100000000 = .ok (.ctlReadResponse 1) := by decide

/-- V44, and R95 and R98 for the other operand places: reserved records are refused by name. -/
theorem test_decode_reserved :
    decodeWord 0x0000000000000000 = .error (.reservedOpcode 0 0) ∧
    decodeWord 0x1300000000000000 = .error (.reservedOpcode 1 3) ∧
    decodeWord 0xB000000000000000 = .error (.reservedOpcode 11 0) ∧
    decodeWord 0x1000000100000042 = .error (.unusedFirstOperand 1) ∧
    decodeWord 0x1100000000000001 = .error (.unusedSecondOperand 1) ∧
    decodeWord 0xA500000180000000 = .error (.unusedSecondOperand 0x80000000) ∧
    decodeWord 0x2100000000000002 = .error (.bitTooWide 2) := by decide

/-- The host's two entry points agree on a word: it decodes, and the first step after reset runs it. -/
theorem test_fetch_word_runs_first :
    decodeTableWord 64 0x1000000000000042 = some (.srlSet 0x42) ∧
    (nextOf (step (State.reset.withFetchWord 64 0x1000000000000042))).map (·.srl.stored) = some 0x42 := by decide

/-- R100. -/
theorem test_assembler_text :
    assemblerText (.ctlSetFeed 1 153) = "CTL.set_feed(1, 153)" ∧
    assemblerText (.dffSetClock true) = "DFF.set_clock(true)" := by decide

/-- R92. -/
theorem test_trigger_numbers :
    triggerOfCode 0 = some .risingEdge ∧ triggerOfCode 2 = some .bothEdges ∧ triggerOfCode 3 = none ∧
    triggerCode .fallingEdge = 1 := by decide

/-! ## Bistables -/

/-- V1: the truth table of R110. -/
theorem test_fires_truth_table :
    [(false, false), (false, true), (true, false), (true, true)].map
      (fun p => [TriggerMode.risingEdge, .fallingEdge, .bothEdges].map (fires p.1 p.2)) =
    [[false, false, false], [true, false, true], [false, true, true], [false, false, false]] := by decide

/-- S11: the resolution table of R124, `(reset, set, prior)`. -/
theorem test_sr_resolution_table :
    [(true, false), (false, true), (true, true), (false, false)].map
      (fun p => (resolveSR p.1 p.2 false, resolveSR p.1 p.2 true)) =
    [(false, false), (true, true), (true, false), (false, true)] := by decide

/-- R118's FallingEdge example: the rise records the level and stores nothing. -/
theorem test_dff_falling_mode_ignores_the_rise :
    (nextOf (exec (.dffSetClock true) { fresh with dff := ⟨0, 0x42, false, .fallingEdge⟩ })).map (·.dff) =
    some ⟨0, 0x42, true, .fallingEdge⟩ := by decide

/-- R118's FallingEdge example: the fall stores, and the queued word stays (V5). -/
theorem test_dff_falling_mode_stores_on_the_fall :
    (nextOf (exec (.dffSetClock false) { fresh with dff := ⟨0, 0x42, true, .fallingEdge⟩ })).map (·.dff) =
    some ⟨0x42, 0x42, false, .fallingEdge⟩ := by decide

/-- V4: `reset` keeps the clock level. -/
theorem test_dff_reset_keeps_the_clock :
    (nextOf (exec .dffReset { fresh with dff := ⟨0x42, 0x42, true, .risingEdge⟩ })).map (·.dff) =
    some ⟨0, 0, true, .risingEdge⟩ := by decide

/-- V7: both inputs held, the bit toggles and the inputs persist (R128). -/
theorem test_srff_toggles :
    (nextOf (exec (.srffSetClock true) { fresh with srff := ⟨true, true, true, false, .risingEdge⟩ })).map (·.srff) =
    some ⟨false, true, true, true, .risingEdge⟩ := by decide

/-- V10, BothEdges: a fall toggles too. -/
theorem test_tff_both_edges :
    (nextOf (exec (.tffSetClock false) { fresh with tff := ⟨true, true, true, .bothEdges⟩ })).map (·.tff) =
    some ⟨false, true, false, .bothEdges⟩ := by decide

/-- V11: a re-assertion toggles nothing. -/
theorem test_tff_reassertion :
    (nextOf (exec (.tffSetClock true) { fresh with tff := ⟨true, true, true, .risingEdge⟩ })).map (·.tff) =
    some ⟨true, true, true, .risingEdge⟩ := by decide

/-! ## Routers -/

/-- V12 and V13: the last selector, and the first that faults. -/
theorem test_mux_selector_limits :
    (nextOf (exec (.muxSetSelector 3) fresh)).map (·.mux.selector) = some 3 ∧
    faultOf (exec (.muxSetSelector 4) fresh) = some (.selectorOutOfRange 4) ∧
    faultOf (exec (.muxSetInputWord 4 1) fresh) = some (.selectorOutOfRange 4) := by decide

/-- V12: selected and deselected reads. -/
theorem test_mux_read :
    returns .muxRead { fresh with mux := ⟨[0x10, 0x20, 0x30, 0x40], 2, true⟩ } = some [.word 0x30] ∧
    returns .muxRead { fresh with mux := ⟨[0x10, 0x20, 0x30, 0x40], 2, false⟩ } = some [.word 0] := by decide

/-- V15. -/
theorem test_is_narrow :
    [1, 7, 8, 9].map isNarrow = [true, true, false, false] ∧
    returns .dmxIsNarrow fresh = some [.bit true] := by decide

/-- V16. -/
theorem test_dmx_read :
    [0, 1, 2, 3].map (fun j => returns (.dmxRead j) { fresh with dmx := ⟨4, 0x42, 2, true⟩ }) =
    [some [.word 0], some [.word 0], some [.word 0x42], some [.word 0]] := by decide

/-- V17: an output that does not exist faults also when deselected. -/
theorem test_dmx_faults :
    faultOf (exec (.dmxRead 4) fresh) = some (.selectorOutOfRange 4) ∧
    faultOf (exec (.dmxSetSelector 4) fresh) = some (.selectorOutOfRange 4) := by decide

/-! ## Register cell -/

/-- V19 and V20: not write-enabled, the level is not even recorded; enabled, the cell sees its first rise. -/
theorem test_cell_clock_gating :
    (nextOf (exec (.cellSetClock true) { fresh with cell := ⟨false, 0x42, true, false, 0⟩ })).map (·.cell) =
      some ⟨false, 0x42, true, false, 0⟩ ∧
    (nextOf (exec (.cellSetClock true) { fresh with cell := ⟨false, 0x42, true, true, 0⟩ })).map (·.cell) =
      some ⟨true, 0x42, true, true, 0x42⟩ := by decide

/-- V21: the cell that never saw the fall stores nothing. -/
theorem test_cell_missed_fall :
    (nextOf (exec (.cellSetClock true) { fresh with cell := ⟨true, 0x22, true, true, 0x11⟩ })).map (·.cell.data) =
      some 0x11 := by decide

/-- V22: a deselected cell reads 0 and has stored its word. -/
theorem test_cell_read :
    returns .cellRead { fresh with cell := ⟨true, 0x42, false, true, 0x42⟩ } = some [.word 0] ∧
    returns .cellRead { fresh with cell := ⟨true, 0x42, true, true, 0x42⟩ } = some [.word 0x42] := by decide

/-! ## Memory block -/

/-- V42. -/
theorem test_pack :
    [(false, false, false), (true, false, false), (false, true, false), (false, false, true), (true, true, true)].map
      (fun p => pack p.1 p.2.1 p.2.2) = [0, 1, 2, 4, 7] := by decide

/-- V24: the rising change stores at the selected line only. -/
theorem test_blk_clock_stores :
    blockData (.blkSetClock true) (withLine 3 ⟨false, 0x42, false, true, 0⟩ (blockAt 3 true false)) =
    some [0, 0, 0, 0x42, 0, 0, 0, 0] := by decide

/-- H1: write-enable raised while the clock is high stores at once. -/
theorem test_blk_write_enable_while_high :
    blockData (.blkSetWriteEnable true) (withLine 3 ⟨false, 0x42, false, false, 0⟩ (blockAt 3 false true)) =
    some [0, 0, 0, 0x42, 0, 0, 0, 0] := by decide

/-- H2: the address changed while the clock is high stores the new line's zeroed word, and the old line's clock lags. -/
theorem test_blk_address_while_high :
    (nextOf (exec (.blkSetAddress 5) (atBlock (withLine 3 ⟨true, 0x42, false, true, 0x42⟩
      (withLine 5 ⟨false, 0, false, false, 0x55⟩ (blockAt 3 true true)))))).map
      (fun t => (t.blk.lines[3]?, t.blk.lines[5]?)) =
    some (some ⟨true, 0x42, false, false, 0x42⟩, some ⟨true, 0, false, true, 0⟩) := by decide

/-- H4: a line whose clock lags high stores nothing. -/
theorem test_blk_lagging_clock :
    blockData (.blkSetWriteEnable true) (withLine 3 ⟨true, 0x22, false, false, 0x11⟩ (blockAt 3 false true)) =
    some [0, 0, 0, 0x11, 0, 0, 0, 0] := by decide

/-- R178's example: the selected line's queued word, and 0 for every other. -/
theorem test_blk_feed :
    (nextOf (exec (.blkSetFeed 0x42) (atBlock (withLine 0 ⟨false, 7, false, false, 0⟩ (blockAt 3 false false))))).map
      (fun t => t.blk.lines.map RegisterCell.queued) = some [0, 0, 0, 0x42, 0, 0, 0, 0] := by decide

/-- V28: chip-select first, then the range. -/
theorem test_blk_read_out_of_range :
    returns .blkReadWord (atBlock (blockAt 8 false false)) = some [.word 0] ∧
    faultOf (exec .blkReadWord (atBlock { blockAt 8 false false with cs := true })) =
      some (.selectorOutOfRange 8) := by decide

/-- V29: a block with a base of 8 does not hold address 3 and holds address 11 in its line 3. -/
theorem test_blk_base :
    localLine 8 8 3 = none ∧ localLine 8 8 11 = some 3 ∧ localLine 8 8 15 = some 7 ∧ localLine 8 8 16 = none := by
  decide

/-! ## Driver -/

/-- V31. -/
theorem test_address_width :
    [1, 2, 3, 4, 8, 9, 24].map ceilLog2 = [0, 1, 2, 2, 3, 4, 5] ∧
    returns .drvAddressWidth fresh = some [.nat 4] := by decide

/-- V33, `[3, 5, 2]`. -/
theorem test_determine_block_index :
    [0, 2, 3, 7, 8, 9].map (fun a => returns (.drvDetermineBlockIndex a) fresh) =
      [some [.nat 0], some [.nat 0], some [.nat 1], some [.nat 1], some [.nat 2], some [.nat 2]] ∧
    faultOf (exec (.drvDetermineBlockIndex 10) fresh) = some (.addressOutOfRange 10) := by decide

/-- V32's selection, over `[3, 5, 2]`: address 3 is line 0 of block 1 and no line of any other block. -/
theorem test_drv_address_selects_one_block :
    (nextOf (exec (.drvSetAddress 3) fresh)).map (fun t => t.drv.blocks.map MemoryBlock.sel) =
    some [none, some 0, none] := by decide

/-- V35: out of range faults also when deselected; in range a deselected read is 0. -/
theorem test_drv_read_out_of_range :
    faultOf (exec .drvReadWord (atDriver (fresh.drv.setAddress 10))) = some (.addressOutOfRange 10) ∧
    returns .drvReadWord (atDriver (fresh.drv.setAddress 9)) = some [.word 0] := by decide

/-! ## Controller -/

/-- R214's example: the rising change of core 0's write stores and captures the word just written. -/
theorem test_ctl_rising_service :
    (nextOf (exec (.ctlSetClock true) (atController (fresh.ctl.putRecord 0 ⟨true, true, 3, 0x42, 0⟩)))).map
      (fun t => (t.ctl.driver.dataAt 3, t.ctl.queue.map QueueRecord.response, t.ctl.focus)) =
    some (some 0x42, [0x42, 0], 0) := by decide

/-- K2: a write-enable raised between the two changes stores the old feed at the falling one, and the focus advances. -/
theorem test_ctl_falling_change_stores :
    (nextOf (exec (.ctlSetClock false) (atController { fresh.ctl with
      clock := true
      driver := fresh.ctl.driver.applyRequest ⟨true, false, 3, 0x42, 0⟩ true
      queue := [⟨true, true, 3, 0x17, 0⟩, QueueRecord.construct] }))).map
      (fun t => (t.ctl.driver.dataAt 3, t.ctl.focus)) =
    some (some 0x42, 1) := by decide

/-- V41: an out-of-range address faults at the rising change. -/
theorem test_ctl_service_faults :
    faultOf (exec (.ctlSetClock true) (atController (fresh.ctl.putRecord 0 ⟨false, true, 9, 0x42, 0⟩))) =
    some (.addressOutOfRange 9) := by decide

/-- R210's and R213's examples: one field of one record. -/
theorem test_ctl_setters :
    (nextOf (exec (.ctlSetChipSelect 1 true) fresh)).map (·.ctl.queue) =
      some [QueueRecord.construct, { QueueRecord.construct with cs := true }] ∧
    (nextOf (exec (.ctlSetFeed 0 0x42) fresh)).map (·.ctl.queue) =
      some [{ QueueRecord.construct with feed := 0x42 }, QueueRecord.construct] := by decide

/-! ## The hypotheses of the statements are met

One theorem for each statement that has hypotheses, named after it: a concrete case, at a boundary of each clause's range, in
which all of them hold together. -/

/-- A step that completes has a next state. -/
theorem completes {r : Result State} (h : (nextOf r).isSome = true) : ∃ t, r = .next t := by
  cases r <;> simp_all [nextOf]

/-- A step that faults has a fault. -/
theorem faults {r : Result State} (h : (faultOf r).isSome = true) : ∃ f, r = .fault f := by
  cases r <;> simp_all [faultOf]

/-- `fresh` with an operation issued next. -/
def issued (i : Instr) : State := fresh.issue (.tuple (encodeRecord i))

/-- A configuration without a packed form (R94): its words are wider than the record's field. -/
def wide : State := State.construct { config with widths := ⟨33, 16⟩ }

/-- The lines of the driver and of the controller's driver hold data, and a core has a request in range. -/
def busy : State :=
  { fresh with
    drv := (((fresh.drv.setWriteEnable true).setAddress 3).setFeed 0x42).setClock true |>.setClock false
    ctl := fresh.ctl.putRecord 0 ⟨true, true, 7, 0x42, 0⟩ }

theorem test_hyp_PackedRecordDecodesToItsOperation :
    (encodeRecord (.ctlSetFeed (2 ^ 24 - 1) (2 ^ 32 - 1))).Packable ∧
    (encodeRecord (.dmxRead (2 ^ 24 - 1))).Packable ∧ (encodeRecord .srlReset).Packable := by decide

theorem test_hyp_DecodedOperationEncodesToItsRecord :
    decodeWord 0xA3FFFFFFFFFFFFFF = .ok (.ctlSetFeed (2 ^ 24 - 1) (2 ^ 32 - 1)) ∧
    decodeWord 0x2100000000000000 = .ok (.dffSetClock false) := by decide

/-- Each clause: a well-formed operation at the limits of its operands, and a packed record with no packed form. -/
theorem test_hyp_PackedFormHoldsEveryWellFormedOperation :
    fresh.hasPackedForm = true ∧ fresh.status = .noFault ∧
    (Instr.ctlSetFeed 1 255).WellFormed fresh.widths fresh.ctl.queue.length fresh.fixture = true ∧
    (wide.withFetchWord 64 0x1000000000000042).status = .noFault ∧
    (wide.withFetchWord 64 0x1000000000000042).program = [.packed 0x1000000000000042] ∧
    (wide.withFetchWord 64 0x1000000000000042).hasPackedForm = false := by decide

theorem test_hyp_DecoderFollowsTheOpcodeTable :
    decodeWord 0xA500000100000000 = .ok (.ctlReadResponse 1) ∧
    ⟨"CTL.read_response", 0xA500000000000000, 0xFF000000FFFFFFFF⟩ ∈ opcodeTable ∧
    (0xA500000100000000 : BitVec 64) &&& 0xFF000000FFFFFFFF = 0xA500000000000000 := by decide

theorem test_hyp_StepRefusesExactlyTheReservedRecords :
    (issued (.blkSetFeed 256)).status = .noFault ∧
    (issued (.blkSetFeed 256)).program = [.tuple (encodeRecord (.blkSetFeed 256))] ∧
    refusalOf (step (issued (.blkSetFeed 256))) = some (.illFormed (.wordTooWide 256)) ∧
    refusalOf (step (fresh.issue (.tuple ⟨1, 3, 0, 0⟩))) = some (.reservedRecord (.reservedOpcode 1 3)) ∧
    refusalOf (step (issued (.blkSetFeed 255))) = none ∧
    refusalOf (step (wide.withFetchWord 64 0x1000000000000042)) = some .noPackedForm := by decide

theorem test_hyp_StepRunsTheDecodedOperation :
    (issued (.blkSetFeed 255)).status = .noFault ∧
    (issued (.blkSetFeed 255)).program = [.tuple (encodeRecord (.blkSetFeed 255))] ∧
    (issued (.blkSetFeed 255)).hasPackedForm = true ∧
    decodeRecord (encodeRecord (.blkSetFeed 255)) = .ok (.blkSetFeed 255) ∧
    (Instr.blkSetFeed 255).WellFormed (issued (.blkSetFeed 255)).widths (issued (.blkSetFeed 255)).ctl.queue.length
      (issued (.blkSetFeed 255)).fixture = true := by decide

theorem test_hyp_ReassertedClockLevelChangesNothing :
    clockOf .drv = some .drvSetClock ∧ (∃ t, exec (.drvSetClock true) busy = .next t) ∧
    clockOf .ctl = some .ctlSetClock ∧ ∃ t, exec (.ctlSetClock true) busy = .next t :=
  ⟨rfl, completes (by decide), rfl, completes (by decide)⟩

theorem test_hyp_MultiplexerOperations :
    3 < fresh.mux.inputs.length ∧ fresh.mux.inputs.length ≤ 4 ∧ fresh.mux.selector < fresh.mux.inputs.length := by
  decide

theorem test_hyp_DemultiplexerSettersAndNarrowness : 3 < fresh.dmx.n ∧ fresh.dmx.n ≤ 4 := by decide

theorem test_hyp_DemultiplexerReadsOneOutput : 3 < fresh.dmx.n ∧ fresh.dmx.n ≤ 4 := by decide

theorem test_hyp_DemultiplexerFansOutToOne :
    3 < fresh.dmx.n ∧ 0 < fresh.dmx.n ∧
    [Instr.dmxSetChipSelect true, .dmxSetInputWord 7, .dmxSetSelector 3].Perm
      [.dmxSetInputWord 7, .dmxSetSelector 3, .dmxSetChipSelect true] := by decide

theorem test_hyp_BlockReadsItsSelectedLine :
    ((blockAt 7 false false).setChipSelect false).RoutersCopy ∧
    ((blockAt 7 false false).setChipSelect true).RoutersCopy ∧
    (atBlock (blockAt 7 false false)).blk.cs = false ∧
    ({ blockAt 8 false false with cs := true }.cs = true ∧ (blockAt 8 false false).base + (blockAt 8 false false).lines.length ≤ 8) ∧
    ({ blockAt 7 false false with cs := true }.cs = true ∧ (blockAt 7 false false).addr = (blockAt 7 false false).base + 7 ∧
      (blockAt 7 false false).lines[7]? = some RegisterCell.construct) := by decide

/-- A line's data does change, by the rising change of `test_blk_clock_stores`. -/
theorem test_hyp_BlockDataChangesOnlyAtTheSelectedLine :
    (Instr.blkSetClock true).kind = .blk ∧
    blockData (.blkSetClock true) (withLine 3 ⟨false, 0x42, false, true, 0⟩ (blockAt 3 true false)) =
      some [0, 0, 0, 0x42, 0, 0, 0, 0] ∧
    (withLine 3 ⟨false, 0x42, false, true, 0⟩ (blockAt 3 true false)).lines[3]?.map RegisterCell.data = some 0 := by
  decide

theorem test_hyp_BlockRoundTripReturnsTheWord : fresh.blk.clk = false ∧ 7 < fresh.blk.lines.length := by decide

theorem test_hyp_BlockEqualsItsFlatForm :
    (∀ i ∈ blkRoundTrip 7 0x42, i.kind = .blk) ∧ fresh.blk.Gated ∧
    (∀ i ∈ [Instr.blkSetChipSelect true, .blkSetAddress 8, .blkReadWord], i.kind = .blk) := by decide

theorem test_hyp_RepeatedBlockSetterChangesNothing :
    ((blockAt 2 false false).setWriteEnable true).Gated ∧ ((blockAt 2 false false).setWriteEnable true).ClockTracked ∧
    ((blockAt 2 false false).setWriteEnable true).RoutersCopy := by decide

theorem test_hyp_DriverReadsTheAddressedLine :
    busy.drv.Laid ∧ (∀ b ∈ busy.drv.blocks, b.Gated ∧ b.cs = false) ∧ busy.drv.addr < totalLines busy.drv.sizes ∧
    (busy.drv.setAddress 10).Laid ∧ (∀ b ∈ (busy.drv.setAddress 10).blocks, b.Gated ∧ b.cs = false) ∧
    totalLines (busy.drv.setAddress 10).sizes ≤ (busy.drv.setAddress 10).addr := by decide

theorem test_hyp_DriverDecodesAnAddress :
    9 < totalLines fresh.drv.sizes ∧ totalLines fresh.drv.sizes ≤ 10 := by decide

theorem test_hyp_DriverAddressWidthIsTheLeast : fresh.drv.Laid ∧ totalLines fresh.drv.sizes ≤ 2 ^ 4 := by decide

theorem test_hyp_DecodeAndSelectionAgree :
    busy.drv.Laid ∧ (∃ t, exec (.drvSetAddress 8) busy = .next t) ∧
    ((nextOf (exec (.drvSetAddress 8) busy)).map fun t => t.drv.blocks[2]?.isSome) = some true :=
  ⟨by decide, completes (by decide), by decide⟩

theorem test_hyp_DriverIsOneFlatMemory :
    ({ config with blkLines := 10 } : Config).blkBase = 0 ∧
    ({ config with blkLines := 10 } : Config).blkLines = totalLines ({ config with blkLines := 10 } : Config).drvBlocks ∧
    SameOperations [.drvSetAddress 9, .drvReadWord] [.blkSetAddress 9, .blkReadWord] ∧
    (∃ t, execAll [.drvSetAddress 9, .drvReadWord] (State.construct { config with blkLines := 10 }) = .next t) ∧
    SameOperations [.drvSetAddress 10, .drvReadWord] [.blkSetAddress 10, .blkReadWord] ∧
    ∃ f, execAll [.drvSetAddress 10, .drvReadWord] (State.construct { config with blkLines := 10 }) = .fault f :=
  ⟨by decide, by decide, by decide, completes (by decide), by decide, faults (by decide)⟩

theorem test_hyp_DriverWriteStoresOneLine :
    busy.drv.Laid ∧ busy.drv.ClockLow ∧ 9 < totalLines busy.drv.sizes ∧ ¬ 10 < totalLines busy.drv.sizes := by decide

theorem test_hyp_DriverLoadReturnsTheLine :
    busy.drv.Laid ∧ busy.drv.ClockLow ∧ 9 < totalLines busy.drv.sizes ∧ totalLines busy.drv.sizes ≤ 10 := by decide

theorem test_hyp_PerCoreOperationsTouchOneRecord :
    busy.ctl.queue[0]? = some ⟨true, true, 7, 0x42, 0⟩ ∧ busy.ctl.queue[1]? = some QueueRecord.construct := by decide

theorem test_hyp_CoreIdOutOfRangeIsRefused : busy.ctl.queue.length ≤ 2 := by decide

/-- Each clause: the re-assertion, the falling change, the rising change that reads and the one that faults. -/
theorem test_hyp_ControllerClockFollowsItsFourSteps :
    busy.ctl.queue[busy.ctl.focus]? = some ⟨true, true, 7, 0x42, 0⟩ ∧ false = busy.ctl.clock ∧ true ≠ busy.ctl.clock ∧
    returns .drvReadWord { busy with drv := busy.ctl.driver.applyRequest ⟨true, true, 7, 0x42, 0⟩ true } =
      some [.word 0x42] ∧
    faultOf (exec .drvReadWord { busy with drv := busy.ctl.driver.applyRequest ⟨true, true, 8, 0x42, 0⟩ true }) =
      some (.addressOutOfRange 8) := by decide

theorem test_hyp_RisingServiceStoresThenCaptures :
    busy.ctl.driver.Laid ∧ busy.ctl.driver.ClockLow ∧ busy.ctl.clock = false ∧
    busy.ctl.queue[busy.ctl.focus]? = some ⟨true, true, 7, 0x42, 0⟩ ∧ 7 < totalLines busy.ctl.driver.sizes ∧
    totalLines busy.ctl.driver.sizes ≤ 8 := by decide

theorem test_hyp_FocusMovesOnlyOnFallingChanges :
    ∃ t, exec (.ctlSetClock false) { busy with ctl := { busy.ctl with clock := true, focus := 1 } } = .next t :=
  completes (by decide)

theorem test_hyp_RoundRobinServesTheCoresInOrder :
    busy.ctl.driver.Laid ∧ busy.ctl.clock = false ∧ busy.ctl.focus < busy.ctl.queue.length ∧
    ∀ q ∈ busy.ctl.queue, q.addr < totalLines busy.ctl.driver.sizes := by decide

/-- Core 0's response does change. -/
theorem test_hyp_RequestsAreHeldAndResponsesCaptured :
    (nextOf (exec (.ctlSetClock true) busy)).map (fun t => t.ctl.queue[0]?) = some (some ⟨true, true, 7, 0x42, 0x42⟩) ∧
    busy.ctl.queue[0]? = some ⟨true, true, 7, 0x42, 0⟩ := by decide

theorem test_hyp_OperationTouchesItsOwnComponentOnly :
    (∃ t, exec (.ctlSetClock true) busy = .next t) ∧ (Instr.ctlSetClock true).kind ≠ .drv :=
  ⟨completes (by decide), by decide⟩

theorem test_hyp_ReadsChangeNothingObservable :
    isRead .drvReadWord = true ∧ (∃ t, exec .drvReadWord { busy with drv := busy.drv.setChipSelect true } = .next t) ∧
    isRead (.drvSetClock true) = false ∧ ∃ t, exec (.drvSetClock true) busy = .next t :=
  ⟨rfl, completes (by decide), rfl, completes (by decide)⟩

theorem test_hyp_FaultsAreExactlyTheTaxonomy :
    busy.drv.Laid ∧ busy.ctl.driver.Laid ∧ busy.ctl.focus < busy.ctl.queue.length ∧
    faultOf (exec (.muxSetSelector 4) busy) = some (.selectorOutOfRange 4) := by decide

theorem test_hyp_FaultIsAbsorbing :
    (issued (.muxSetSelector 4)).status = .noFault ∧
    faultOf (step (issued (.muxSetSelector 4))) = some (.selectorOutOfRange 4) ∧
    { fresh with status := .faulted (.addressOutOfRange 8) }.status = .faulted (.addressOutOfRange 8) := by decide

theorem test_hyp_ConstructionConstantsNeverChange : ∃ t, step (issued (.drvSetClock true)) = .next t :=
  completes (by decide)

theorem test_hyp_StepKeepsLinesGated :
    (issued (.blkSetAddress 7)).LinesGated ∧ ∃ t, step (issued (.blkSetAddress 7)) = .next t :=
  ⟨by decide, completes (by decide)⟩

theorem test_hyp_StepKeepsClocksTracked :
    (issued (.blkSetWriteEnable true)).ClocksTracked ∧ ∃ t, step (issued (.blkSetWriteEnable true)) = .next t :=
  ⟨by decide, completes (by decide)⟩

/-- The driver after its first setter: its own blocks hold R31's copies, the other components' do not yet. -/
def addressed : State := atDriver (fresh.drv.setAddress 9)

/-- The persistence clauses, each from the copies of its own component alone: an operation of the block after its first, a
read after a setter of the driver, and the controller's falling change after its rising one. -/
theorem test_hyp_StepKeepsRoutersCopy :
    (addressed.RoutersFollow ∧ ¬ addressed.blk.RoutersCopy ∧
      addressed.drv.blocks.all (fun b => decide b.RoutersCopy) = true ∧
      ∃ t, step (addressed.issue (.tuple (encodeRecord .drvReadWord))) = .next t) ∧
    (((blockAt 0 false false).setAddress 7).RoutersCopy ∧
      ∃ t, step ((atBlock ((blockAt 0 false false).setAddress 7)).issue (.tuple (encodeRecord .blkReadWord))) = .next t) ∧
    ((fresh.ctl.driver.applyRequest QueueRecord.construct true).blocks.all (fun b => decide b.RoutersCopy) = true ∧
      ∃ t, step ((atController { fresh.ctl with
        driver := fresh.ctl.driver.applyRequest QueueRecord.construct true
        clock := true }).issue (.tuple (encodeRecord (.ctlSetClock false)))) = .next t) :=
  ⟨⟨by decide, by decide, by decide, completes (by decide)⟩, ⟨by decide, completes (by decide)⟩,
    ⟨by decide, completes (by decide)⟩⟩

/-- The clauses that bring a block to R31's copies, from construction: the block, the driver's setter, the driver's read and
the controller's rising change. -/
theorem test_hyp_StepKeepsRoutersCopy_first_operations :
    fresh.RoutersFollow ∧ ¬ fresh.blk.RoutersCopy ∧ (∃ t, exec .blkReadWord fresh = .next t) ∧
    (∃ t, exec (.drvSetAddress 9) fresh = .next t) ∧ (∃ t, exec .drvReadWord fresh = .next t) ∧
    returns (.drvDetermineBlockIndex fresh.drv.addr) fresh = some [.nat 0] ∧ true ≠ fresh.ctl.clock ∧
    ∃ t, exec (.ctlSetClock true) fresh = .next t :=
  ⟨by decide, by decide, completes (by decide), completes (by decide), completes (by decide), by decide, by decide,
    completes (by decide)⟩

/-- R26, R44, R260: after construction every chip-select is false, the routers' in a block too. -/
theorem test_construction_deselects_the_routers :
    fresh.blocks.all (fun b => !b.controlDemux.cs && !b.writeDemux.cs && !b.readMux.cs) = true := by decide

/-- R31: a block's first operation leaves its routers copies of its fields, be it a read. -/
theorem test_blk_first_read_points_the_routers :
    (nextOf (exec .blkReadWord fresh)).map (fun t => (t.blk.controlDemux.cs, t.blk.writeDemux.cs, t.returned)) =
    some (true, true, [.word 0]) := by decide

theorem test_hyp_StepKeepsDriversLaid :
    (issued (.ctlSetClock true)).DriversLaid ∧ ∃ t, step (issued (.ctlSetClock true)) = .next t :=
  ⟨by decide, completes (by decide)⟩

theorem test_hyp_StepKeepsBusClocked :
    (issued (.ctlSetClock true)).BusClocked ∧ ∃ t, step (issued (.ctlSetClock true)) = .next t :=
  ⟨by decide, completes (by decide)⟩

theorem test_hyp_StepKeepsSelectorsInRange :
    (issued (.muxSetSelector 3)).SelectorsInRange ∧ ∃ t, step (issued (.muxSetSelector 3)) = .next t :=
  ⟨by decide, completes (by decide)⟩

theorem test_hyp_StepKeepsValuesInRange :
    (issued (.srlSet 255)).ValuesInRange ∧ ∃ t, step (issued (.srlSet 255)) = .next t :=
  ⟨by decide, completes (by decide)⟩

theorem test_hyp_ConstructionIsLegal : config.WellFormed = true := by decide

theorem test_hyp_ConstructionRefusesDegenerateParameters :
    State.build config = .ok (State.construct config) ∧
    State.build { config with widths := ⟨8, 3⟩ } = .error .unaddressableLines := by decide

end Sys2Proof.Tests
end

section
/-! SUPPORT. The controller's queue records (10_state.md R42): which operation may change which field of a core's record.
The operations of the other nine components leave the controller alone; a setter and the capturing rising change each
replace one record of the queue. -/

namespace Sys2Proof.Machine

/-! ## What leaves the controller alone -/

/-- R20 for the controller: an operation of another kind does not change it. -/
theorem exec_ctl_of_kind_ne {i : Instr} {s t : State} (h : exec i s = .next t) (hk : i.kind ≠ .ctl) : t.ctl = s.ctl := by
  cases i with
  | ctlSetChipSelect | ctlSetWriteEnable | ctlSetAddress | ctlSetFeed | ctlSetClock | ctlReadResponse =>
    exact absurd rfl hk
  | muxSetInputWord | muxSetSelector | dmxSetSelector | dmxRead | blkReadWord | drvReadWord | drvDetermineBlockIndex =>
    obtain ⟨_, -, rfl⟩ := orRaise_eq_next h
    rfl
  | _ => cases h; rfl

/-! ## The change of one record -/

/-- R42: how the operation `i`, done in `s`, may turn core `c`'s record `q` into `q'`: a field of the request changes only by
the setter of that field, the response only where a genuine rising change finds the core in focus. -/
structure QueueRecord.MayBecome (i : Instr) (s : State) (c : Nat) (q q' : QueueRecord) : Prop where
  cs : q'.cs ≠ q.cs → i = .ctlSetChipSelect c q'.cs
  we : q'.we ≠ q.we → i = .ctlSetWriteEnable c q'.we
  addr : q'.addr ≠ q.addr → i = .ctlSetAddress c q'.addr
  feed : q'.feed ≠ q.feed → i = .ctlSetFeed c q'.feed
  response : q'.response ≠ q.response → i = .ctlSetClock true ∧ s.ctl.clock = false ∧ s.ctl.focus = c

section
variable {i : Instr} {s t : State} {c d : Nat} {q p' : QueueRecord}

theorem QueueRecord.mayBecome_refl : q.MayBecome i s c q := by
  constructor <;> exact absurd rfl

/-- Replacing core `d`'s record, if there is one, by what it may become keeps every core's record or turns it into what
that may become. -/
theorem queue_set_mayBecome (hq : s.ctl.queue[c]? = some q)
    (hd : ∀ p, s.ctl.queue[d]? = some p → p.MayBecome i s d p') :
    ∃ q', (s.ctl.queue.set d p')[c]? = some q' ∧ q.MayBecome i s c q' := by
  by_cases hdc : d = c
  · subst hdc
    have hlt : d < s.ctl.queue.length := (List.getElem?_eq_some_iff.mp hq).1
    exact ⟨p', List.getElem?_set_self hlt, hd q hq⟩
  · exact ⟨q, by rw [List.getElem?_set_ne hdc, hq], QueueRecord.mayBecome_refl⟩

/-- R216: a per-core setter that turns each record into what it may become does so with every core's record. -/
theorem onRecord_putRecord_mayBecome {f : QueueRecord → QueueRecord}
    (h : (s.onRecord d fun p => s.putCtl (s.ctl.putRecord d (f p))) = .next t) (hq : s.ctl.queue[c]? = some q)
    (hf : ∀ p : QueueRecord, p.MayBecome i s d (f p)) :
    ∃ q', t.ctl.queue[c]? = some q' ∧ q.MayBecome i s c q' := by
  obtain ⟨p, hp, rfl⟩ := onRecord_eq_next h
  refine queue_set_mayBecome hq fun p₁ hp₁ => ?_
  obtain rfl : p = p₁ := Option.some.inj (hp.symm.trans hp₁)
  exact hf p

theorem Controller.focused_eq {k : Controller} (h : k.queue[k.focus]? = some q) : k.focused = q := by
  simp [focused, h]

/-- R214 step 3: the controller's clock changes a record only by capturing the response of the core in focus on a genuine
rising change. -/
theorem setClock_mayBecome {level : Bit} {k : Controller} (h : s.ctl.setClock level = .ok k)
    (hq : s.ctl.queue[c]? = some q) :
    ∃ q', k.queue[c]? = some q' ∧ q.MayBecome (.ctlSetClock level) s c q' := by
  obtain ⟨-, rfl⟩ | ⟨rfl, hlow, w, d', -, rfl⟩ | ⟨-, -, rfl⟩ := Controller.setClock_eq_ok h
  case inl => exact ⟨q, hq, QueueRecord.mayBecome_refl⟩
  case inr.inl =>
    refine queue_set_mayBecome hq fun p hp => ?_
    rw [Controller.focused_eq hp]
    exact { QueueRecord.mayBecome_refl (s := s) with response := fun _ => ⟨rfl, hlow, rfl⟩ }
  case inr.inr => exact ⟨q, hq, QueueRecord.mayBecome_refl⟩

/-- R42, R220: every operation keeps a core's record or turns it into what it may become. -/
theorem exec_mayBecome (h : exec i s = .next t) (hq : s.ctl.queue[c]? = some q) :
    ∃ q', t.ctl.queue[c]? = some q' ∧ q.MayBecome i s c q' := by
  cases i with
  | ctlSetChipSelect d level =>
    exact onRecord_putRecord_mayBecome h hq fun _ => { QueueRecord.mayBecome_refl with cs := fun _ => rfl }
  | ctlSetWriteEnable d level =>
    exact onRecord_putRecord_mayBecome h hq fun _ => { QueueRecord.mayBecome_refl with we := fun _ => rfl }
  | ctlSetAddress d a =>
    exact onRecord_putRecord_mayBecome h hq fun _ => { QueueRecord.mayBecome_refl with addr := fun _ => rfl }
  | ctlSetFeed d w =>
    exact onRecord_putRecord_mayBecome h hq fun _ => { QueueRecord.mayBecome_refl with feed := fun _ => rfl }
  | ctlSetClock level =>
    obtain ⟨k, hk, rfl⟩ := orRaise_eq_next h
    exact setClock_mayBecome hk hq
  | ctlReadResponse d =>
    obtain ⟨_, -, rfl⟩ := onRecord_eq_next h
    exact ⟨q, hq, QueueRecord.mayBecome_refl⟩
  | _ =>
    rw [exec_ctl_of_kind_ne h nofun]
    exact ⟨q, hq, QueueRecord.mayBecome_refl⟩

end

/-- Settles O42: of all operations only a core's own setters and the capture of R214 touch its record. -/
theorem requestsAreHeldAndResponsesCaptured : Obligations.RequestsAreHeldAndResponsesCaptured := by
  intro i s t c q h hq
  obtain ⟨q', hq', hcs, hwe, haddr, hfeed, hresponse⟩ := exec_mayBecome h hq
  exact ⟨q', hq', hcs, hwe, haddr, hfeed, hresponse⟩

end Sys2Proof.Machine
end

section
/-! SUPPORT. The bistables (40_bistables.md R110 to R129): the clocked step in the form the statements use, the clock operation
of each clocked bistable in one record, and the operations of the four components. -/

namespace Sys2Proof.Machine

/-! ## The clocked step -/

/-- R110, from the incoming level's side: the form in which the clock operations compare it with the stored one. -/
theorem fires_iff_level_ne (old level : Bit) (mode : TriggerMode) :
    fires old level mode = true ↔ level ≠ old ∧
      (mode = .bothEdges ∨ mode = .risingEdge ∧ level = true ∨ mode = .fallingEdge ∧ level = false) := by
  rw [fires_iff, ne_comm]

/-- R110: a re-asserted level does not fire in any mode. -/
theorem fires_self (level : Bit) (mode : TriggerMode) : fires level level mode = false := by
  simp [fires]

/-- R111: where observing the stored level again changes nothing, the clocked step observes every level and acts exactly when
the edge predicate fires. -/
theorem clockedStep_eq_ite {α : Type} {mode : TriggerMode} {old level : Bit} {observe action : α → α} {x : α}
    (hobserve : level = old → observe x = x) :
    clockedStep mode old level observe action x =
      if fires old level mode = true then action (observe x) else observe x := by
  obtain ⟨rfl, hstep⟩ | ⟨-, hfires, hstep⟩ | ⟨-, hfires, hstep⟩ := clockedStep_cases mode old level observe action x
  · rw [hstep, fires_self, hobserve rfl, if_neg Bool.false_ne_true]
  · rw [hstep, if_pos hfires]
  · rw [hstep, hfires, if_neg Bool.false_ne_true]

/-- R124: the resolution table as a chain of its four cases. -/
theorem resolveSR_eq_ite (reset set stored : Bit) :
    resolveSR reset set stored =
      if reset = true ∧ set = false then false
      else if set = true ∧ reset = false then true
      else if set = true ∧ reset = true then !stored
      else stored := by
  cases reset <;> cases set <;> rfl

/-- R118: the D flip-flop's clock operation in one record. -/
theorem ClockedSetResetLatch.setClock_eq (level : Bit) (x : ClockedSetResetLatch) :
    x.setClock level =
      { x with
        clockState := level
        stored := if fires x.clockState level x.triggerMode = true then x.directInput else x.stored } := by
  rw [setClock, clockedStep_eq_ite (by rintro rfl; rfl)]
  split <;> rfl

/-- R123: the SR flip-flop's clock operation in one record. -/
theorem SRFlipFlop.setClock_eq (level : Bit) (x : SRFlipFlop) :
    x.setClock level =
      { x with
        clockState := level
        stored :=
          if fires x.clockState level x.triggerMode = true then resolveSR x.resetQueue x.setQueue x.stored
          else x.stored } := by
  rw [setClock, clockedStep_eq_ite (by rintro rfl; rfl)]
  split <;> rfl

/-- R127: the T flip-flop's clock operation in one record. -/
theorem TFlipFlop.setClock_eq (level : Bit) (x : TFlipFlop) :
    x.setClock level =
      { x with
        clockState := level
        stored :=
          if fires x.clockState level x.triggerMode = true ∧ x.inputQueue = true then !x.stored else x.stored } := by
  rw [setClock, clockedStep_eq_ite (by rintro rfl; rfl), ite_and]
  split <;> rfl

/-! ## The operations -/

/-- R95: the record of a level carries it as 0 or 1. -/
theorem bitValue_eq_toNat (l : Bit) : bitValue l = l.toNat := by
  cases l <;> rfl

theorem exec_dffSetClock (level : Bit) (s : State) :
    exec (.dffSetClock level) s = .next { s with dff := s.dff.setClock level } := rfl

theorem exec_srffSetClock (level : Bit) (s : State) :
    exec (.srffSetClock level) s = .next { s with srff := s.srff.setClock level } := rfl

theorem exec_tffSetClock (level : Bit) (s : State) :
    exec (.tffSetClock level) s = .next { s with tff := s.tff.setClock level } := rfl

/-- Settles O8: the edge predicate's cases. -/
theorem edgePredicateFires : Obligations.EdgePredicateFires := fires_iff

/-- Settles O10: the latch's three operations, each by its definition. -/
theorem setResetLatchOperations : Obligations.SetResetLatchOperations := by
  intro s
  exact ⟨fun w => ⟨rfl, rfl⟩, ⟨rfl, rfl⟩, rfl, rfl⟩

/-- Settles O11: the clock operation by the clocked step in one record, the others by their definitions. -/
theorem clockedLatchOperations : Obligations.ClockedLatchOperations := by
  intro s
  refine ⟨fun w => ⟨rfl, rfl⟩, ⟨rfl, rfl⟩, ⟨rfl, rfl⟩, fun level => ⟨?record, ?clock⟩⟩
  case record => rw [encodeRecord, bitValue_eq_toNat]
  case clock =>
    rw [exec_dffSetClock, ClockedSetResetLatch.setClock_eq, if_congr (fires_iff_level_ne ..) rfl rfl]

/-- Settles O12: the clock operation by the clocked step in one record and R124's table, the others by their definitions. -/
theorem srFlipFlopOperations : Obligations.SRFlipFlopOperations := by
  intro s
  refine ⟨fun l => ⟨⟨?setRecord, rfl⟩, ⟨?resetRecord, rfl⟩, rfl, rfl⟩, fun level => ⟨?clockRecord, ?clock⟩⟩
  case setRecord | resetRecord | clockRecord => rw [encodeRecord, bitValue_eq_toNat]
  case clock =>
    rw [exec_srffSetClock, SRFlipFlop.setClock_eq, resolveSR_eq_ite, if_congr (fires_iff_level_ne ..) rfl rfl]

/-- Settles O13: the clock operation by the clocked step in one record, the others by their definitions. -/
theorem tFlipFlopOperations : Obligations.TFlipFlopOperations := by
  intro s
  refine ⟨fun l => ⟨⟨?inputRecord, rfl⟩, rfl, rfl⟩, fun level => ⟨?clockRecord, ?clock⟩⟩
  case inputRecord | clockRecord => rw [encodeRecord, bitValue_eq_toNat]
  case clock =>
    rw [exec_tffSetClock, TFlipFlop.setClock_eq,
      if_congr ((and_congr_left' (fires_iff_level_ne ..)).trans and_assoc) rfl rfl]

end Sys2Proof.Machine
end

section
/-! SUPPORT. The routers (41_routers.md R140 to R150): what each selector check answers on either side of the bound, the
operations on the multiplexer and the demultiplexer, and sequences of operations that may be issued in any order. -/

namespace Sys2Proof.Machine

/-! ## Selectors -/

section
variable {v n : Nat}

theorem checkSelector_of_lt (h : v < n) : checkSelector v n = .ok () := if_pos h

theorem checkSelector_of_le (h : n ≤ v) : checkSelector v n = .error (.selectorOutOfRange v) := if_neg h.not_gt

end

/-! ## The multiplexer -/

section
variable {m : Multiplexer} {i v : Nat} {w : Word}

/-- R140: an input that exists is loaded. -/
theorem Multiplexer.setInputWord_of_lt (h : i < m.n) :
    m.setInputWord i w = .ok { m with inputs := m.inputs.set i w } := by
  rw [setInputWord, checkSelector_of_lt h]

theorem Multiplexer.setInputWord_of_le (h : m.n ≤ i) : m.setInputWord i w = .error (.selectorOutOfRange i) := by
  rw [setInputWord, checkSelector_of_le h]

/-- R141: a selector of an input that exists is accepted. -/
theorem Multiplexer.setSelector_of_lt (h : v < m.n) : m.setSelector v = .ok { m with selector := v } := by
  rw [setSelector, checkSelector_of_lt h]

theorem Multiplexer.setSelector_of_le (h : m.n ≤ v) : m.setSelector v = .error (.selectorOutOfRange v) := by
  rw [setSelector, checkSelector_of_le h]

/-- R144, R25: where the selector is in range, the output is an input of the multiplexer, never the default. -/
theorem Multiplexer.read_of_lt (h : m.selector < m.inputs.length) :
    m.read = if m.cs then m.inputs[m.selector] else 0 := by
  rw [read, List.getElem?_eq_getElem h, Option.getD_some]

end

section
variable (s : State)

theorem exec_muxSetInputWord (i : Nat) (w : Word) :
    exec (.muxSetInputWord i w) s = orRaise (s.mux.setInputWord i w) s.putMux := rfl

theorem exec_muxSetSelector (a : Nat) : exec (.muxSetSelector a) s = orRaise (s.mux.setSelector a) s.putMux := rfl

theorem exec_muxRead : exec .muxRead s = .next (s.returning (.word s.mux.read)) := rfl

end

/-- Settles O15: loading and selecting by the selector check on either side of `N`, the read by the range of the selector,
the others by their definitions. -/
theorem multiplexerOperations : Obligations.MultiplexerOperations := by
  intro s
  refine ⟨fun i w => ⟨rfl, fun h => ?load, fun h => ?loadFault⟩,
    fun a => ⟨rfl, fun h => ?select, fun h => ?selectFault⟩,
    fun l => ⟨?record, rfl⟩, ⟨rfl, rfl⟩, rfl, fun h => ?read⟩
  case load => rw [exec_muxSetInputWord, Multiplexer.setInputWord_of_lt h, orRaise_ok]; rfl
  case loadFault => rw [exec_muxSetInputWord, Multiplexer.setInputWord_of_le h, orRaise_error]
  case select => rw [exec_muxSetSelector, Multiplexer.setSelector_of_lt h, orRaise_ok]; rfl
  case selectFault => rw [exec_muxSetSelector, Multiplexer.setSelector_of_le h, orRaise_error]
  case record => rw [encodeRecord, bitValue_eq_toNat]
  case read => rw [exec_muxRead, Multiplexer.read_of_lt h]; rfl

/-! ## The demultiplexer -/

section
variable {α : Type} {d : Demultiplexer α} {j v : Nat}

/-- R147: a selector of an output that exists is accepted. -/
theorem Demultiplexer.setSelector_of_lt (h : v < d.n) : d.setSelector v = .ok { d with selector := v } := by
  rw [setSelector, checkSelector_of_lt h]

theorem Demultiplexer.setSelector_of_le (h : d.n ≤ v) : d.setSelector v = .error (.selectorOutOfRange v) := by
  rw [setSelector, checkSelector_of_le h]

/-- R149: an output that exists is shown. -/
theorem Demultiplexer.read_of_lt [OfNat α 0] (h : j < d.n) : d.read j = .ok (d.output j) := by
  rw [read, checkSelector_of_lt h]

theorem Demultiplexer.read_of_le [OfNat α 0] (h : d.n ≤ j) : d.read j = .error (.selectorOutOfRange j) := by
  rw [read, checkSelector_of_le h]

end

section
variable {s : State} {k j : Nat}

theorem exec_dmxSetSelector_of_lt (h : k < s.dmx.n) :
    exec (.dmxSetSelector k) s = .next (s.putDmx { s.dmx with selector := k }) := by
  change orRaise (s.dmx.setSelector k) s.putDmx = _
  rw [Demultiplexer.setSelector_of_lt h, orRaise_ok]

theorem exec_dmxSetSelector_of_le (h : s.dmx.n ≤ k) :
    exec (.dmxSetSelector k) s = .fault (.selectorOutOfRange k) := by
  change orRaise (s.dmx.setSelector k) s.putDmx = _
  rw [Demultiplexer.setSelector_of_le h, orRaise_error]

theorem exec_dmxRead_of_lt (h : j < s.dmx.n) :
    exec (.dmxRead j) s = .next (s.returning (.word (s.dmx.output j))) := by
  change orRaise (s.dmx.read j) (fun w => s.returning (.word w)) = _
  rw [Demultiplexer.read_of_lt h, orRaise_ok]

theorem exec_dmxRead_of_le (h : s.dmx.n ≤ j) : exec (.dmxRead j) s = .fault (.selectorOutOfRange j) := by
  change orRaise (s.dmx.read j) (fun w => s.returning (.word w)) = _
  rw [Demultiplexer.read_of_le h, orRaise_error]

end

/-- Settles O16: the selector by its check on either side of `n`, the others by their definitions. -/
theorem demultiplexerSettersAndNarrowness : Obligations.DemultiplexerSettersAndNarrowness := by
  intro s
  refine ⟨fun w => ⟨rfl, rfl⟩, fun l => ⟨?record, rfl⟩,
    fun k => ⟨rfl, exec_dmxSetSelector_of_lt, exec_dmxSetSelector_of_le⟩, rfl, rfl⟩
  case record => rw [encodeRecord, bitValue_eq_toNat]

/-- Settles O17: the index check comes first, and an output that exists shows `Demultiplexer.output`. -/
theorem demultiplexerReadsOneOutput : Obligations.DemultiplexerReadsOneOutput :=
  fun _ _ => ⟨rfl, exec_dmxRead_of_lt, exec_dmxRead_of_le⟩

/-! ## Operations in any order -/

section
variable {i j : Instr} {l l' : List Instr} {s t : State}

theorem execAll_cons_of_next (h : exec i s = .next t) : execAll (i :: l) s = execAll l t := by
  rw [execAll, h]

theorem execAll_cons_of_fault {f : Fault} (h : exec i s = .fault f) : execAll (i :: l) s = .fault f := by
  rw [execAll, h]

/-- R70: a sequence issued after one that completes starts where that one ends. -/
theorem execAll_append_of_next (h : execAll l s = .next t) : execAll (l ++ l') s = execAll l' t := by
  induction l generalizing s with
  | nil => cases h; rfl
  | cons i rest ih =>
    rw [execAll] at h
    split at h
    case h_1 u hu => rw [List.cons_append, execAll_cons_of_next hu, ih h]
    case h_2 | h_3 => cases h

/-- Two operations next to each other in a sequence have the same effect in either order, their faults included. -/
def Commutes (i j : Instr) : Prop :=
  ∀ (rest : List Instr) (s : State), execAll (i :: j :: rest) s = execAll (j :: i :: rest) s

theorem commutes_symm (h : Commutes i j) : Commutes j i := fun rest s => (h rest s).symm

/-- Operations that commute pairwise have the same effect in any order. -/
theorem execAll_perm (h : l.Perm l') (hl : l.Pairwise Commutes) (s : State) : execAll l s = execAll l' s := by
  induction h generalizing s with
  | nil => rfl
  | cons i _ ih =>
    rw [execAll, execAll]
    split
    case h_1 t _ => exact ih hl.of_cons t
    case h_2 | h_3 => rfl
  | swap i j rest => exact List.rel_of_pairwise_cons hl List.mem_cons_self rest s
  | trans h₁ _ ih₁ ih₂ => rw [ih₁ hl, ih₂ (hl.perm h₁ commutes_symm)]

end

/-! ## The demultiplexer's setters in any order -/

/-- R147: an operation that replaces the demultiplexer, keeping its size and neither reading nor writing its selector,
commutes with the selection, which faults before and after it alike. -/
theorem commutes_dmxSetSelector {i : Instr} {f : Demultiplexer Word → Demultiplexer Word} (k : Nat)
    (hexec : ∀ s : State, exec i s = .next (s.putDmx (f s.dmx))) (hn : ∀ d, (f d).n = d.n)
    (hselector : ∀ d, f { d with selector := k } = { f d with selector := k }) : Commutes i (.dmxSetSelector k) := by
  intro rest s
  have hsize : (s.putDmx (f s.dmx)).dmx.n = s.dmx.n := hn s.dmx
  rw [execAll_cons_of_next (hexec s)]
  rcases lt_or_ge k s.dmx.n with hk | hk
  · rw [execAll_cons_of_next (exec_dmxSetSelector_of_lt (hsize ▸ hk)),
      execAll_cons_of_next (exec_dmxSetSelector_of_lt hk), execAll_cons_of_next (hexec _),
      State.putDmx_dmx, State.putDmx_dmx, hselector]
    rfl
  · rw [execAll_cons_of_fault (exec_dmxSetSelector_of_le (hsize ▸ hk)),
      execAll_cons_of_fault (exec_dmxSetSelector_of_le hk)]

section
variable (w : Word) (k : Nat) (l : Bit)

/-- The setters of R150 commute pairwise, whatever they set. -/
theorem dmxSetters_pairwise_commutes :
    [.dmxSetInputWord w, .dmxSetSelector k, .dmxSetChipSelect l].Pairwise Commutes := by
  have hinput : Commutes (.dmxSetInputWord w) (.dmxSetSelector k) :=
    commutes_dmxSetSelector (f := .setInputWord w) k (fun _ => rfl) (fun _ => rfl) fun _ => rfl
  have hcs : Commutes (.dmxSetChipSelect l) (.dmxSetSelector k) :=
    commutes_dmxSetSelector (f := .setChipSelect l) k (fun _ => rfl) (fun _ => rfl) fun _ => rfl
  have hinputCs : Commutes (.dmxSetInputWord w) (.dmxSetChipSelect l) := fun _ _ => rfl
  simp [hinput, hinputCs, commutes_symm hcs]

/-- R150: the three setters one after the other, for a selector in range. -/
theorem execAll_dmxSetters {s : State} {k : Nat} (hk : k < s.dmx.n) :
    execAll [.dmxSetInputWord w, .dmxSetSelector k, .dmxSetChipSelect l] s =
      .next (s.putDmx { s.dmx with input := w, selector := k, cs := l }) := by
  rw [execAll_cons_of_next rfl, execAll_cons_of_next (exec_dmxSetSelector_of_lt ?inRange)]
  case inRange => exact hk
  rfl

end

/-- Settles O18: the three setters commute pairwise, so any order of them ends where the order of R150 ends, and there
exactly the selected output shows the word. -/
theorem demultiplexerFansOutToOne : Obligations.DemultiplexerFansOutToOne := by
  intro s w k j setters hk hj hperm
  have hcommute : setters.Pairwise Commutes := (dmxSetters_pairwise_commutes w k true).perm hperm.symm commutes_symm
  have hset : execAll setters s = .next (s.putDmx { s.dmx with input := w, selector := k, cs := true }) :=
    (execAll_perm hperm hcommute s).trans (execAll_dmxSetters w true hk)
  rw [execAll_append_of_next hset, execAll_cons_of_next (exec_dmxRead_of_lt ?inRange)]
  case inRange => exact hj
  simp [execAll, Demultiplexer.output, State.putDmx, State.returning]

end Sys2Proof.Machine
end

section
/-! SUPPORT. The register cell (42_register_cell.md R160 to R166): the clock operation in its three cases, and the operations
of the component. -/

namespace Sys2Proof.Machine

/-! ## The clock operation of a register cell -/

section
variable {c : RegisterCell} {level : Bit}

/-- R163: without the write-enable not even the level is recorded. -/
theorem RegisterCell.setClock_of_not_we (hwe : c.we = false) : c.setClock level = c :=
  if_neg (ne_true_of_eq_false hwe)

/-- R163: a write-enabled cell that observes a rise stores its queued word. -/
theorem RegisterCell.setClock_of_rise (hwe : c.we = true) (hlow : c.clock = false) :
    c.setClock true = { c with clock := true, data := c.queued } := by
  simp [setClock_eq, hwe, hlow]

/-- R163: a write-enabled cell that observes no rise records the level and keeps its data. -/
theorem RegisterCell.setClock_of_not_rise (hwe : c.we = true) (hrise : ¬(c.clock = false ∧ level = true)) :
    c.setClock level = { c with clock := level } := by
  have hedge : (level && !c.clock) = false := by
    rw [Bool.eq_false_iff, ne_eq, Bool.and_eq_true, Bool.not_eq_true', and_comm]
    exact hrise
  simp [setClock_eq, hwe, hedge]

end

theorem exec_cellSetClock (level : Bit) (s : State) :
    exec (.cellSetClock level) s = .next { s with cell := s.cell.setClock level } := rfl

/-- Settles O19: the clock operation by the write-enable and the rise, the others by their definitions. -/
theorem registerCellOperations : Obligations.RegisterCellOperations := by
  intro s
  refine ⟨fun w => ⟨rfl, rfl⟩, fun l => ⟨?csRecord, rfl⟩, fun l => ⟨?weRecord, rfl⟩, ⟨rfl, rfl⟩,
    fun level => ⟨?clockRecord, ?clock⟩⟩
  case csRecord | weRecord | clockRecord => rw [encodeRecord, bitValue_eq_toNat]
  case clock =>
    rw [exec_cellSetClock]
    split_ifs with hwe hrise
    · rw [RegisterCell.setClock_of_not_we hwe]
    · obtain ⟨hlow, rfl⟩ := hrise
      rw [RegisterCell.setClock_of_rise (Bool.eq_true_of_not_eq_false hwe) hlow]
    · rw [RegisterCell.setClock_of_not_rise (Bool.eq_true_of_not_eq_false hwe) hrise]

end Sys2Proof.Machine
end

section
/-! SUPPORT. The memory block (43_memory_block.md R170 to R179): the packed control word, the two broadcasts in the terms of the
statements, and the three answers of a read. -/

namespace Sys2Proof.Machine

/-! ## The control word -/

/-- R90: the control word is the clock bit with the write-enable and then the chip-select appended below it. -/
theorem pack_eq_concat (cs we clk : Bit) : pack cs we clk = ((BitVec.ofBool clk).concat we).concat cs := rfl

theorem pack_toNat (cs we clk : Bit) : (pack cs we clk).toNat = cs.toNat + 2 * we.toNat + 4 * clk.toNat := by
  rw [pack_eq_concat, BitVec.toNat_concat, BitVec.toNat_concat, BitVec.toNat_ofBool]
  omega

/-- Settles O9: its number by appending its bits one by one, its bits by the laws of the three fields. -/
theorem controlWordIsPacked : Obligations.ControlWordIsPacked :=
  fun cs we clk => ⟨pack_toNat cs we clk, controlCs_pack cs we clk, controlWe_pack cs we clk, controlClk_pack cs we clk⟩

/-! ## The broadcasts -/

section
variable {cs we clk : Bit} {c : RegisterCell}

/-- R171: the cell takes the two gating flags before it sees the clock level. -/
theorem RegisterCell.applyControl_pack_eq_setClock :
    c.applyControl (pack cs we clk) = { c with cs := cs, we := we }.setClock clk := by
  rw [applyControl, controlCs_pack, controlWe_pack, controlClk_pack]
  rfl

/-- R163, R171, R172: the selected line receives the control word. -/
theorem lineAfterControl_selected : lineAfterControl true cs we clk c = c.applyControl (pack cs we clk) := by
  rw [RegisterCell.applyControl_pack_eq_setClock, lineAfterControl, if_neg Bool.true_eq_false_eq_False]
  split_ifs with hwe hrise
  · rw [hwe, RegisterCell.setClock_of_not_we rfl]
  · obtain ⟨rfl, hlow⟩ := hrise
    rw [Bool.eq_true_of_not_eq_false hwe]
    exact (RegisterCell.setClock_of_rise (c := { c with cs := cs, we := true }) rfl hlow).symm
  · rw [Bool.eq_true_of_not_eq_false hwe]
    exact (RegisterCell.setClock_of_not_rise (c := { c with cs := cs, we := true }) rfl (mt And.symm hrise)).symm

/-- R172: every other line receives the zeroed word. -/
theorem lineAfterControl_not_selected : lineAfterControl false cs we clk c = c.applyControl 0 := by
  rw [RegisterCell.applyControl_zero]
  rfl

end

/-- R172: each line of a block after its control broadcast. -/
theorem MemoryBlock.broadcastControl_line {b : MemoryBlock} {i : Nat} {c : RegisterCell} (hc : b.lines[i]? = some c) :
    b.broadcastControl.lines[i]? = some (lineAfterControl (decide (b.sel = some i)) b.cs b.we b.clk c) := by
  rw [broadcastControl_getElem?, hc, Option.map_some]
  by_cases hsel : b.sel = some i
  · rw [if_pos hsel, decide_eq_true hsel, lineAfterControl_selected, RegisterCell.applyControl_pack]
  · rw [if_neg hsel, decide_eq_false hsel, lineAfterControl_not_selected, RegisterCell.applyControl_zero]

/-- R172: the model's control broadcast is the one the statements describe. -/
theorem MemoryBlock.controlBroadcastOf_broadcastControl (b : MemoryBlock) :
    b.ControlBroadcastOf b.broadcastControl :=
  ⟨broadcastControl_base b, broadcastControl_cs b, broadcastControl_we b, broadcastControl_clk b,
    broadcastControl_addr b, broadcastControl_feed b, broadcastControl_n b, fun _ _ => broadcastControl_line⟩

/-- R173: the model's data broadcast is the one the statements describe. -/
theorem MemoryBlock.dataBroadcastOf_broadcastData (b : MemoryBlock) : b.DataBroadcastOf b.broadcastData := by
  refine ⟨broadcastData_base b, broadcastData_cs b, broadcastData_we b, broadcastData_clk b,
    broadcastData_addr b, broadcastData_feed b, broadcastData_n b, fun i c hc => ?line⟩
  case line => rw [broadcastData_getElem?, hc, Option.map_some]

/-- Settles O21: each control setter is the control broadcast of the block with its field written. -/
theorem blockSettersBroadcastTheControlWord : Obligations.BlockSettersBroadcastTheControlWord := by
  intro s
  refine ⟨fun l => ⟨?csRecord, s.blk.setChipSelect l, rfl, ?cs⟩,
    fun l => ⟨?weRecord, s.blk.setWriteEnable l, rfl, ?we⟩,
    fun l => ⟨?clkRecord, s.blk.setClock l, rfl, ?clk⟩,
    fun a => ⟨rfl, s.blk.setAddress a, rfl, ?addr⟩⟩
  case csRecord | weRecord | clkRecord => rw [encodeRecord, bitValue_eq_toNat]
  case cs | we | clk | addr => exact MemoryBlock.controlBroadcastOf_broadcastControl _

/-- Settles O22: `set_feed` is the data broadcast of the block with its feed written. -/
theorem blockFeedReachesOneQueuedInput : Obligations.BlockFeedReachesOneQueuedInput :=
  fun s w => ⟨rfl, s.blk.setFeed w, rfl, MemoryBlock.dataBroadcastOf_broadcastData _⟩

/-! ## The read -/

section
variable {b : MemoryBlock} {i : Nat}

/-- R36: line `i` is selected by the address `i` above the base. -/
theorem MemoryBlock.sel_eq_some_iff : b.sel = some i ↔ b.addr = b.base + i ∧ i < b.lines.length := by
  rw [sel, localLine_eq_some, n]
  omega

/-- R36: an address outside the block selects no line. -/
theorem MemoryBlock.sel_eq_none_iff : b.sel = none ↔ b.addr < b.base ∨ b.base + b.lines.length ≤ b.addr :=
  localLine_eq_none

/-- R179: a deselected block answers 0, whether or not a line is selected. -/
theorem MemoryBlock.readWord_of_not_cs (hcs : b.cs = false) : b.readWord = .ok (0, b.pointRouters) :=
  if_neg (ne_true_of_eq_false hcs)

theorem MemoryBlock.readWord_of_sel_none (hcs : b.cs = true) (hsel : b.sel = none) :
    b.readWord = .error (.selectorOutOfRange b.addr) := by
  rw [readWord, if_pos hcs, hsel]

/-- R179: the selected line's output; there is such a line, so the model's default cell is never read. -/
theorem MemoryBlock.readWord_of_sel_some {c : RegisterCell} (hcs : b.cs = true) (hsel : b.sel = some i)
    (hc : b.lines[i]? = some c) : b.readWord = .ok (c.read, b.pointRouters.refreshReadMux i) := by
  rw [readWord, if_pos hcs, hsel]
  simp only [hc, Option.getD_some]

/-- R31: where the routers hold their copies, pointing them and refreshing the read multiplexer changes that one only. -/
theorem MemoryBlock.pointRouters_refreshReadMux_eq (hcopy : b.RoutersCopy) :
    b.pointRouters.refreshReadMux i = { b with readMux := (b.pointRouters.refreshReadMux i).readMux } := by
  rw [pointRouters_eq_self hcopy]
  rfl

/-- R179: the read multiplexer after a read. -/
theorem MemoryBlock.pointRouters_refreshReadMux_readMux :
    (b.pointRouters.refreshReadMux i).readMux = ⟨b.lines.map RegisterCell.read, i, true⟩ := by
  rw [refreshReadMux, pointRouters_lines]

end

theorem exec_blkReadWord (s : State) :
    exec .blkReadWord s = orRaise s.blk.readWord fun r => (s.putBlk r.2).returning (.word r.1) := rfl

/-- Settles O23: the three answers of the block's read. -/
theorem blockReadsItsSelectedLine : Obligations.BlockReadsItsSelectedLine := by
  refine ⟨rfl, fun s => ⟨fun hcs => ?deselected, fun hcs hout => ?noLine, fun i c hcs haddr hc => ?line⟩⟩
  case deselected =>
    refine ⟨s.blk.pointRouters, ?answer, MemoryBlock.pointRouters_hideRouters _, MemoryBlock.pointRouters_eq_self⟩
    case answer =>
      rw [exec_blkReadWord, MemoryBlock.readWord_of_not_cs hcs, orRaise_ok]
      rfl
  case noLine =>
    rw [exec_blkReadWord, MemoryBlock.readWord_of_sel_none hcs (MemoryBlock.sel_eq_none_iff.mpr hout), orRaise_error]
  case line =>
    have hsel : s.blk.sel = some i := MemoryBlock.sel_eq_some_iff.mpr ⟨haddr, (List.getElem?_eq_some_iff.mp hc).1⟩
    refine ⟨s.blk.pointRouters.refreshReadMux i, ?answer, MemoryBlock.pointRouters_refreshReadMux_readMux, ?hidden,
      MemoryBlock.pointRouters_refreshReadMux_eq⟩
    case answer =>
      rw [exec_blkReadWord, MemoryBlock.readWord_of_sel_some hcs hsel hc, orRaise_ok]
      rfl
    case hidden => rw [MemoryBlock.refreshReadMux_hideRouters, MemoryBlock.pointRouters_hideRouters]

end Sys2Proof.Machine
end

section
/-! SUPPORT. The multi-block driver (44_memory_driver.md R191 to R199): the fan-out of a setter, the decode of a global
address and the block and line it answers in a contiguous memory, the routed read, and the derived address width. -/

namespace Sys2Proof.Machine

/-! ## The setters -/

/-- R191: what `f` makes of any block, the fan-out of `f` makes of each block of the driver. -/
theorem Driver.forall₂_fanOut {R : MemoryBlock → MemoryBlock → Prop} {f : MemoryBlock → MemoryBlock} (d : Driver)
    (h : ∀ b, R b (f b)) : List.Forall₂ R d.blocks (d.fanOut f).blocks :=
  List.forall₂_map_right_iff.mpr (List.forall₂_same.mpr fun b _ => h b)

/-- Settles O28: each driver setter is the fan-out of a block setter, which is the broadcast of the block with its field
written. -/
theorem driverSettersFanOutToEveryBlock : Obligations.DriverSettersFanOutToEveryBlock := by
  intro s
  refine ⟨fun l => ⟨?csRecord, _, rfl, s.drv.forall₂_fanOut ?cs⟩,
    fun l => ⟨?weRecord, _, rfl, s.drv.forall₂_fanOut ?we⟩,
    fun a => ⟨rfl, _, rfl, s.drv.forall₂_fanOut ?addr⟩,
    fun l => ⟨?clkRecord, _, rfl, s.drv.forall₂_fanOut ?clk⟩,
    fun w => ⟨rfl, _, rfl, s.drv.forall₂_fanOut ?feed⟩⟩
  case csRecord | weRecord | clkRecord => rw [encodeRecord, bitValue_eq_toNat]
  case cs | we | addr | clk => exact fun b => MemoryBlock.controlBroadcastOf_broadcastControl _
  case feed => exact fun b => MemoryBlock.dataBroadcastOf_broadcastData _

/-! ## The decode -/

section
variable {sizes : List Nat} {a k : Nat}

/-- R197: the owning block is the one whose cumulative range holds the address. -/
theorem owningBlock_eq_some_iff :
    owningBlock sizes a = some k ↔
      k < sizes.length ∧ totalLines (sizes.take k) ≤ a ∧ a < totalLines (sizes.take (k + 1)) := by
  rw [owningBlock, scanBlocks_eq_some (Nat.zero_le a)]
  simp only [Nat.zero_le, true_and, Nat.sub_zero, Nat.zero_add, totalLines]

/-- R197: no block owns an address beyond the last line. -/
theorem owningBlock_eq_none_iff : owningBlock sizes a = none ↔ totalLines sizes ≤ a := by
  rw [owningBlock, scanBlocks_eq_none (Nat.zero_le a), Nat.zero_add, totalLines]

/-- R197: every address of the memory has an owning block. -/
theorem exists_owningBlock (ha : a < totalLines sizes) : ∃ k, owningBlock sizes a = some k :=
  Option.ne_none_iff_exists'.mp (mt owningBlock_eq_none_iff.mp ha.not_ge)

end

section
variable {s : State} {a k : Nat}

theorem Driver.determineBlockIndex_of_owningBlock {d : Driver} (h : owningBlock d.sizes a = some k) :
    d.determineBlockIndex a = .ok k := by
  rw [determineBlockIndex, h]

theorem Driver.determineBlockIndex_of_le {d : Driver} (h : totalLines d.sizes ≤ a) :
    d.determineBlockIndex a = .error (.addressOutOfRange a) := by
  rw [determineBlockIndex, owningBlock_eq_none_iff.mpr h]

theorem exec_drvDetermineBlockIndex (a : Nat) (s : State) :
    exec (.drvDetermineBlockIndex a) s = orRaise (s.drv.determineBlockIndex a) fun k => s.returning (.nat k) := rfl

theorem exec_drvDetermineBlockIndex_of_owningBlock (h : owningBlock s.drv.sizes a = some k) :
    exec (.drvDetermineBlockIndex a) s = .next { s with returned := s.returned ++ [.nat k] } := by
  rw [exec_drvDetermineBlockIndex, Driver.determineBlockIndex_of_owningBlock h, orRaise_ok]
  rfl

end

/-- Settles O30: the scan answers the block whose cumulative range holds the address, and fails beyond the last line. -/
theorem driverDecodesAnAddress : Obligations.DriverDecodesAnAddress := by
  refine fun s a => ⟨rfl, fun ha => ?inRange, fun ha => ?beyond⟩
  case inRange =>
    obtain ⟨k, hk⟩ := exists_owningBlock ha
    obtain ⟨hlt, hlo, hhi⟩ := owningBlock_eq_some_iff.mp hk
    rw [Driver.sizes, List.length_map] at hlt
    exact ⟨k, hlt, hlo, hhi, exec_drvDetermineBlockIndex_of_owningBlock hk⟩
  case beyond => rw [exec_drvDetermineBlockIndex, Driver.determineBlockIndex_of_le ha, orRaise_error]

/-! ## The line at an address -/

section
variable {blocks : List MemoryBlock} {b : MemoryBlock} {base a i k : Nat} {w : Word}

theorem contiguousFrom_cons :
    contiguousFrom base (b :: blocks) = true ↔ b.base = base ∧ contiguousFrom (base + b.n) blocks = true := by
  rw [contiguousFrom, Bool.and_eq_true, decide_eq_true_iff]

/-- R66, R190: in a contiguous memory a block starts where the blocks before it end. -/
theorem base_eq_of_contiguousFrom (h : contiguousFrom base blocks = true) (hb : blocks[k]? = some b) :
    b.base = base + totalLines ((blocks.map MemoryBlock.n).take k) := by
  induction blocks generalizing base k with
  | nil => simp at hb
  | cons x rest ih =>
    obtain ⟨hx, hrest⟩ := contiguousFrom_cons.mp h
    cases k with
    | zero =>
      obtain rfl : x = b := by simpa using hb
      simpa [totalLines] using hx
    | succ k =>
      rw [ih hrest (by simpa using hb), List.map_cons, List.take_succ_cons, totalLines, totalLines, List.sum_cons,
        Nat.add_assoc]

/-- R60: the word at an address of a block is the data of the line that far above the base. -/
theorem MemoryBlock.dataAt_eq_some_iff :
    b.dataAt a = some w ↔ ∃ i c, a = b.base + i ∧ b.lines[i]? = some c ∧ c.data = w := by
  constructor
  case mp =>
    intro h
    cases hi : localLine b.base b.n a with
    | none => simp [dataAt, hi] at h
    | some i =>
      obtain ⟨hlo, -, rfl⟩ := localLine_eq_some.mp hi
      obtain ⟨c, hc, hw⟩ : ∃ c, b.lines[a - b.base]? = some c ∧ c.data = w := by simpa [dataAt, hi] using h
      exact ⟨_, c, (Nat.add_sub_of_le hlo).symm, hc, hw⟩
  case mpr =>
    rintro ⟨i, c, rfl, hc, rfl⟩
    have hlt : i < b.n := (List.getElem?_eq_some_iff.mp hc).1
    have hi : localLine b.base b.n (b.base + i) = some i := localLine_eq_some.mpr (by omega)
    simp [dataAt, hi, hc]

/-- R60: every address in the range of a block has a word. -/
theorem MemoryBlock.exists_dataAt (hlo : b.base ≤ a) (hhi : a < b.base + b.n) : ∃ w, b.dataAt a = some w := by
  have hlt : a - b.base < b.lines.length := Nat.sub_lt_left_of_lt_add hlo hhi
  exact ⟨_, dataAt_eq_some_iff.mpr ⟨_, _, (Nat.add_sub_of_le hlo).symm, List.getElem?_eq_getElem hlt, rfl⟩⟩

theorem MemoryBlock.dataAt_eq_none (h : b.base + b.n ≤ a) : b.dataAt a = none := by
  rw [dataAt, localLine_eq_none.mpr (.inr h)]

/-- R66: in a contiguous memory an address finds its word in the block whose range holds it. -/
theorem findSome?_dataAt_of_contiguousFrom (h : contiguousFrom base blocks = true) (hb : blocks[k]? = some b)
    (hlo : b.base ≤ a) (hw : b.dataAt a = some w) :
    (blocks.findSome? fun x => x.dataAt a) = some w := by
  induction blocks generalizing base k with
  | nil => simp at hb
  | cons x rest ih =>
    obtain ⟨hx, hrest⟩ := contiguousFrom_cons.mp h
    cases k with
    | zero =>
      obtain rfl : x = b := by simpa using hb
      rw [List.findSome?_cons, hw]
    | succ k =>
      have hbase := base_eq_of_contiguousFrom hrest (by simpa using hb)
      have hpast : x.dataAt a = none := MemoryBlock.dataAt_eq_none (by omega)
      rw [List.findSome?_cons, hpast]
      exact ih hrest (by simpa using hb)

end

section
variable {d : Driver} {b b' : MemoryBlock} {a k : Nat} {w : Word}

/-- R66, R197: the decode answers the block whose own range holds the address. -/
theorem Driver.owningBlock_eq_some_iff_of_wf (hwf : Memory.wf d.blocks = true) :
    owningBlock d.sizes a = some k ↔ ∃ b, d.blocks[k]? = some b ∧ b.base ≤ a ∧ a < b.base + b.n := by
  have hrange : ∀ b, d.blocks[k]? = some b →
      b.base = totalLines (d.sizes.take k) ∧ b.base + b.n = totalLines (d.sizes.take (k + 1)) := by
    intro b hb
    obtain ⟨hlt, rfl⟩ := List.getElem?_eq_some_iff.mp hb
    have hbase := base_eq_of_contiguousFrom hwf hb
    rw [Nat.zero_add] at hbase
    have hnext := List.sum_take_succ d.sizes k (by simpa [sizes] using hlt)
    refine ⟨hbase, ?_⟩
    rw [hbase, totalLines, totalLines, hnext]
    simp [sizes]
  rw [owningBlock_eq_some_iff]
  constructor
  case mp =>
    rintro ⟨hlt, hlo, hhi⟩
    rw [sizes, List.length_map] at hlt
    have hb := List.getElem?_eq_getElem hlt
    obtain ⟨hbase, hend⟩ := hrange _ hb
    exact ⟨_, hb, hbase ▸ hlo, hend ▸ hhi⟩
  case mpr =>
    rintro ⟨b, hb, hlo, hhi⟩
    obtain ⟨hbase, hend⟩ := hrange b hb
    have hlt := (List.getElem?_eq_some_iff.mp hb).1
    exact ⟨by rwa [sizes, List.length_map], hbase ▸ hlo, hend ▸ hhi⟩

/-! ## The routed read -/

/-- R37, R179: a gated block reads the word at its address, or 0 while it is deselected. -/
theorem MemoryBlock.readWord_of_dataAt (hg : b.Gated) (hw : b.dataAt b.addr = some w) :
    ∃ b', b.readWord = .ok (if b.cs then w else 0, b') := by
  obtain ⟨i, c, haddr, hc, rfl⟩ := dataAt_eq_some_iff.mp hw
  obtain ⟨hlt, rfl⟩ := List.getElem?_eq_some_iff.mp hc
  have hsel : b.sel = some i := sel_eq_some_iff.mpr ⟨haddr, hlt⟩
  cases hcs : b.cs with
  | false => exact ⟨_, readWord_of_not_cs hcs⟩
  | true =>
    obtain ⟨hline, -⟩ := hg i hlt
    rw [decide_eq_true hsel, hcs, Bool.and_self] at hline
    refine ⟨b.pointRouters.refreshReadMux i, ?_⟩
    rw [readWord_of_sel_some hcs hsel hc, RegisterCell.read, hline]

/-- R196: the read is the owning block's, which alone is replaced. -/
theorem Driver.readWord_of_owningBlock (hk : owningBlock d.sizes d.addr = some k) (hb : d.blocks[k]? = some b)
    (hr : b.readWord = .ok (w, b')) : d.readWord = .ok (w, { d with blocks := d.blocks.set k b' }) := by
  simp only [readWord, determineBlockIndex_of_owningBlock hk, hb, Option.getD_some, hr]

/-- R196: beyond the last line the decode faults before any block is asked. -/
theorem Driver.readWord_of_le (h : totalLines d.sizes ≤ d.addr) :
    d.readWord = .error (.addressOutOfRange d.addr) := by
  rw [readWord, determineBlockIndex_of_le h]

/-- Replacing a block by one that differs in its routers alone changes routers alone. -/
theorem map_hideRouters_set {blocks : List MemoryBlock} (hb : blocks[k]? = some b)
    (hh : b'.hideRouters = b.hideRouters) :
    (blocks.set k b').map MemoryBlock.hideRouters = blocks.map MemoryBlock.hideRouters := by
  obtain ⟨hlt, rfl⟩ := List.getElem?_eq_some_iff.mp hb
  rw [List.map_set, hh, ← List.getElem_map MemoryBlock.hideRouters (h := by simpa using hlt), List.set_getElem_self]

theorem exec_drvReadWord (s : State) :
    exec .drvReadWord s = orRaise s.drv.readWord fun r => (s.putDrv r.2).returning (.word r.1) := rfl

end

/-- Settles O29: the owning block holds the driver's address, so the routed read answers that line by R37. -/
theorem driverReadsTheAddressedLine : Obligations.DriverReadsTheAddressedLine := by
  refine ⟨rfl, fun s cs hlaid hblocks => ⟨fun ha => ?inRange, fun ha => ?beyond⟩⟩
  case inRange =>
    obtain ⟨hwf, huniform, -⟩ := hlaid
    obtain ⟨k, hk⟩ := exists_owningBlock ha
    obtain ⟨b, hb, hlo, hhi⟩ := (Driver.owningBlock_eq_some_iff_of_wf hwf).mp hk
    have hmem := List.mem_of_getElem? hb
    obtain ⟨hgated, rfl⟩ := hblocks b hmem
    obtain ⟨haddr, -⟩ := huniform b hmem
    obtain ⟨w, hw⟩ := MemoryBlock.exists_dataAt hlo hhi
    obtain ⟨b', hread⟩ := MemoryBlock.readWord_of_dataAt hgated (haddr ▸ hw)
    refine ⟨{ s.drv with blocks := s.drv.blocks.set k b' }, w, k, findSome?_dataAt_of_contiguousFrom hwf hb hlo hw,
      exec_drvDetermineBlockIndex_of_owningBlock hk, ?answer, rfl, rfl,
      map_hideRouters_set hb (MemoryBlock.readWord_hideRouters hread), fun j hj => List.getElem?_set_ne hj.symm⟩
    case answer =>
      rw [exec_drvReadWord, Driver.readWord_of_owningBlock hk hb hread, orRaise_ok]
      rfl
  case beyond => rw [exec_drvReadWord, Driver.readWord_of_le ha, orRaise_error]

/-! ## The address width -/

/-- R39: the search from an exponent not above the least one, with fuel to reach it, ends there. -/
theorem leastExponent_eq_clog {n fuel k : Nat} (hk : k ≤ Nat.clog 2 n) (hfuel : Nat.clog 2 n ≤ k + fuel) :
    leastExponent n fuel k = Nat.clog 2 n := by
  induction fuel generalizing k with
  | zero => exact hk.antisymm hfuel
  | succ fuel ih =>
    rw [leastExponent]
    split_ifs with hreach
    · exact hk.antisymm (Nat.clog_le_of_le_pow hreach)
    · have hlt : k < Nat.clog 2 n := (Nat.lt_clog_iff_pow_lt Nat.one_lt_two).mpr (Nat.lt_of_not_le hreach)
      exact ih hlt (by omega)

/-- R39: the derived width is the rounded-up logarithm; the line count is fuel enough, since `n < 2 ^ n`. -/
theorem ceilLog2_eq_clog (n : Nat) : ceilLog2 n = Nat.clog 2 n := by
  refine leastExponent_eq_clog (Nat.zero_le _) ?_
  rw [Nat.zero_add]
  exact Nat.clog_le_of_le_pow Nat.lt_two_pow_self.le

/-- Settles O31: by R39 the construction constant is the rounded-up logarithm of the line count. -/
theorem driverAddressWidthIsTheLeast : Obligations.DriverAddressWidthIsTheLeast := by
  refine ⟨rfl, fun s hlaid => ⟨s.drv.addressWidth, rfl, ?_⟩⟩
  obtain ⟨-, -, hwidth⟩ := hlaid
  rw [hwidth, ceilLog2_eq_clog]
  exact ⟨Nat.le_pow_clog Nat.one_lt_two _, fun j hj => Nat.clog_le_of_le_pow hj⟩

end Sys2Proof.Machine
end

section
/-! SUPPORT. The memory controller (45_memory_controller.md R210 to R216): a per-core operation on a core that exists, the
request applied by the driver's own operations, and the clock operation in its four cases. -/

namespace Sys2Proof.Machine

/-! ## The per-core operations -/

/-- R216: a per-core operation acts on the record of a core that exists. -/
theorem onRecord_of_record {s : State} {c : Nat} {q : QueueRecord} {go : QueueRecord → State}
    (hq : s.ctl.queue[c]? = some q) : s.onRecord c go = .next (go q) := by
  rw [State.onRecord, hq]

/-- Settles O36: each operation acts on the core's own record, by its definition. -/
theorem perCoreOperationsTouchOneRecord : Obligations.PerCoreOperationsTouchOneRecord := by
  intro s c q hq
  refine ⟨fun v => ⟨?csRecord, onRecord_of_record hq⟩, fun v => ⟨?weRecord, onRecord_of_record hq⟩,
    fun a => ⟨rfl, onRecord_of_record hq⟩, fun w => ⟨rfl, onRecord_of_record hq⟩, rfl, onRecord_of_record hq⟩
  case csRecord | weRecord => rw [encodeRecord, bitValue_eq_toNat]

/-! ## The clock -/

section
variable {k : Controller} {q : QueueRecord}

/-- R214: a re-assertion changes nothing. -/
theorem Controller.setClock_self : k.setClock k.clock = .ok k := if_pos rfl

/-- R214 step 4: a genuine falling change applies the focused request and hands the bus over. -/
theorem Controller.setClock_of_fall (hq : k.queue[k.focus]? = some q) (hhigh : false ≠ k.clock) :
    k.setClock false = .ok { k with
      driver := k.driver.applyRequest q false
      focus := (k.focus + 1) % k.queue.length
      clock := false } := by
  rw [setClock, if_neg hhigh, focused_eq hq]
  rfl

/-- R214 step 3: a genuine rising change applies the focused request and captures what the driver's read answers. -/
theorem Controller.setClock_of_rise {d' : Driver} {w : Word} (hq : k.queue[k.focus]? = some q) (hlow : true ≠ k.clock)
    (hr : (k.driver.applyRequest q true).readWord = .ok (w, d')) :
    k.setClock true = .ok { k with
      driver := d'
      queue := k.queue.set k.focus { q with response := w }
      clock := true } := by
  simp only [setClock, if_neg hlow, focused_eq hq, if_true, hr]

/-- R214, R221: a genuine rising change ends in the fault of the driver's read. -/
theorem Controller.setClock_of_rise_fault {f : Fault} (hq : k.queue[k.focus]? = some q) (hlow : true ≠ k.clock)
    (hr : (k.driver.applyRequest q true).readWord = .error f) : k.setClock true = .error f := by
  simp only [setClock, if_neg hlow, focused_eq hq, if_true, hr]

end

theorem exec_ctlSetClock (level : Bit) (s : State) :
    exec (.ctlSetClock level) s = orRaise (s.ctl.setClock level) s.putCtl := rfl

/-- R214 steps 1 and 2: a request is applied by five operations of the driver, the clock last. -/
theorem execAll_applyRequest (q : QueueRecord) (level : Bit) (s : State) :
    execAll [.drvSetChipSelect q.cs, .drvSetWriteEnable q.we, .drvSetAddress q.addr, .drvSetFeed q.feed,
      .drvSetClock level] s = .next { s with drv := s.drv.applyRequest q level } := rfl

/-- R196: a driver's read that completes shows what the driver answered. -/
theorem Driver.readWord_of_exec_drvReadWord {s : State} {d' : Driver} {w : Word}
    (h : exec .drvReadWord s = .next { s with drv := d', returned := s.returned ++ [.word w] }) :
    s.drv.readWord = .ok (w, d') := by
  obtain ⟨⟨v, d⟩, hr, ht⟩ := orRaise_eq_next h
  obtain rfl : d' = d := congrArg State.drv ht
  have hreturned : s.returned ++ [.word w] = s.returned ++ [.word v] := congrArg State.returned ht
  obtain rfl : w = v := by simpa using hreturned
  exact hr

/-- Settles O38: the driver of steps 1 and 2 is `applyRequest`'s, and the clock operation goes on from it by the direction of
the change and by what the driver's read answers. -/
theorem controllerClockFollowsItsFourSteps : Obligations.ControllerClockFollowsItsFourSteps := by
  intro s level q hq
  refine ⟨?record, ?reassert, fun hchange => ⟨_, execAll_applyRequest q level _, ?fall, ?rise⟩⟩
  case record => rw [encodeRecord, bitValue_eq_toNat]
  case reassert =>
    rintro rfl
    rw [exec_ctlSetClock, Controller.setClock_self, orRaise_ok]
    rfl
  case fall =>
    rintro rfl
    rw [exec_ctlSetClock, Controller.setClock_of_fall hq hchange, orRaise_ok]
    rfl
  case rise =>
    rintro rfl
    refine ⟨fun d' w hread => ?capture, fun f hread => ?fault⟩
    case capture =>
      rw [exec_ctlSetClock, Controller.setClock_of_rise hq hchange (Driver.readWord_of_exec_drvReadWord hread), orRaise_ok]
      rfl
    case fault =>
      rw [exec_ctlSetClock, Controller.setClock_of_rise_fault hq hchange (orRaise_eq_fault hread), orRaise_error]

end Sys2Proof.Machine
end

section
/-! SUPPORT. Operation records (30_encoding.md R93 to R98): the fields of a packed record and the bits a row of the opcode table
masks, the operand forms of the decoder, and the decoder as a list of forms, row by row with spec/opcode_table.json. -/

namespace Sys2Proof

/-! ## The packed record and its fields -/

section
variable {k k' o o' : BitVec 4} {a a' : BitVec 24} {b b' : BitVec 32}

/-- R94: a packed record is its four fields, the kind at the top. -/
theorem exists_fields (w : BitVec 64) :
    ∃ (k o : BitVec 4) (a : BitVec 24) (b : BitVec 32), w = k ++ o ++ a ++ b := by
  refine ⟨w.extractLsb' 60 4, w.extractLsb' 56 4, w.extractLsb' 32 24, w.extractLsb' 0 32, ?_⟩
  rw [BitVec.extractLsb'_append_extractLsb'_eq_extractLsb' (start₂ := 60) (start₁ := 56) (len₁ := 4) rfl,
    BitVec.extractLsb'_append_extractLsb'_eq_extractLsb' (start₂ := 56) (start₁ := 32) (len₁ := 24) rfl,
    BitVec.extractLsb'_append_extractLsb'_eq_extractLsb' (start₂ := 32) (start₁ := 0) (len₁ := 32) rfl, BitVec.extractLsb'_eq_self]

theorem unpackRecord_append : unpackRecord (k ++ o ++ a ++ b) = ⟨k.toNat, o.toNat, a.toNat, b.toNat⟩ := by
  have hop : (k ++ o ++ a ++ b).extractLsb' 56 4 = o := by
    rw [BitVec.extractLsb'_append_eq_of_le (by decide), BitVec.extractLsb'_append_eq_of_le (by decide)]
    exact BitVec.extractLsb'_append_eq_right
  have ha : (k ++ o ++ a ++ b).extractLsb' 32 24 = a := by
    rw [BitVec.extractLsb'_append_eq_of_le (by decide)]
    exact BitVec.extractLsb'_append_eq_right
  have hkind : (k ++ o ++ a ++ b).extractLsb' 60 4 = k := by
    rw [BitVec.extractLsb'_append_eq_of_le (by decide), BitVec.extractLsb'_append_eq_of_le (by decide)]
    exact BitVec.extractLsb'_append_eq_left
  rw [unpackRecord, hkind, hop, ha, BitVec.extractLsb'_append_eq_right]

theorem fields_inj : k ++ o ++ a ++ b = k' ++ o' ++ a' ++ b' ↔ k = k' ∧ o = o' ∧ a = a' ∧ b = b' := by
  constructor
  case mp =>
    intro h
    have hfields := congrArg unpackRecord h
    simpa only [unpackRecord_append, Record.mk.injEq, BitVec.toNat_inj] using hfields
  case mpr =>
    rintro ⟨rfl, rfl, rfl, rfl⟩
    rfl

end

/-- R94: a tuple that fits the fields is read back from its packed record. -/
theorem unpackRecord_packRecord {r : Record} (h : r.Packable) : unpackRecord (packRecord r) = r := by
  obtain ⟨hkind, hop, ha, hb⟩ := h
  rw [packRecord, unpackRecord_append, BitVec.toNat_ofNat, BitVec.toNat_ofNat, BitVec.toNat_ofNat, BitVec.toNat_ofNat,
    Nat.mod_eq_of_lt hkind, Nat.mod_eq_of_lt hop, Nat.mod_eq_of_lt ha, Nat.mod_eq_of_lt hb]

/-- R94: no bit of a packed record lies outside its fields. -/
theorem packRecord_unpackRecord (w : BitVec 64) : packRecord (unpackRecord w) = w := by
  obtain ⟨k, o, a, b, rfl⟩ := exists_fields w
  simp only [unpackRecord_append, packRecord, BitVec.ofNat_toNat, BitVec.setWidth_eq]

/-- R93: the tuple of every operation decodes to the operation. -/
theorem decodeRecord_encodeRecord (i : Instr) : decodeRecord (encodeRecord i) = .ok i := by
  change Laws.DecodeEncode.Statement i
  open Laws.DecodeEncode in
  cases i with
  | srlSet w => exact srlSet w
  | srlReset => exact srlReset
  | srlRead => exact srlRead
  | dffSetData w => exact dffSetData w
  | dffSetClock l => exact dffSetClock l
  | dffReset => exact dffReset
  | dffRead => exact dffRead
  | srffSetSetQueue l => exact srffSetSetQueue l
  | srffSetResetQueue l => exact srffSetResetQueue l
  | srffSetClock l => exact srffSetClock l
  | srffRead => exact srffRead
  | tffSetInputQueue l => exact tffSetInputQueue l
  | tffSetClock l => exact tffSetClock l
  | tffRead => exact tffRead
  | muxSetInputWord i w => exact muxSetInputWord i w
  | muxSetSelector a => exact muxSetSelector a
  | muxSetChipSelect l => exact muxSetChipSelect l
  | muxIsNarrow => exact muxIsNarrow
  | muxRead => exact muxRead
  | dmxSetInputWord w => exact dmxSetInputWord w
  | dmxSetChipSelect l => exact dmxSetChipSelect l
  | dmxSetSelector a => exact dmxSetSelector a
  | dmxIsNarrow => exact dmxIsNarrow
  | dmxRead i => exact dmxRead i
  | cellSetInput w => exact cellSetInput w
  | cellSetChipSelect l => exact cellSetChipSelect l
  | cellSetWriteEnable l => exact cellSetWriteEnable l
  | cellSetClock l => exact cellSetClock l
  | cellRead => exact cellRead
  | blkSetChipSelect l => exact blkSetChipSelect l
  | blkSetWriteEnable l => exact blkSetWriteEnable l
  | blkSetClock l => exact blkSetClock l
  | blkSetAddress a => exact blkSetAddress a
  | blkSetFeed w => exact blkSetFeed w
  | blkReadWord => exact blkReadWord
  | drvSetChipSelect l => exact drvSetChipSelect l
  | drvSetWriteEnable l => exact drvSetWriteEnable l
  | drvSetAddress a => exact drvSetAddress a
  | drvSetClock l => exact drvSetClock l
  | drvReadWord => exact drvReadWord
  | drvDetermineBlockIndex a => exact drvDetermineBlockIndex a
  | drvSetFeed w => exact drvSetFeed w
  | drvAddressWidth => exact drvAddressWidth
  | ctlSetChipSelect c l => exact ctlSetChipSelect c l
  | ctlSetWriteEnable c l => exact ctlSetWriteEnable c l
  | ctlSetAddress c a => exact ctlSetAddress c a
  | ctlSetFeed c w => exact ctlSetFeed c w
  | ctlSetClock l => exact ctlSetClock l
  | ctlReadResponse c => exact ctlReadResponse c

/-- R93, R94: an operation whose tuple fits the fields is decoded from its packed record. -/
theorem decodeWord_encodeWord {i : Instr} (h : (encodeRecord i).Packable) : decodeWord (encodeWord i) = .ok i := by
  rw [decodeWord, encodeWord, unpackRecord_packRecord h, decodeRecord_encodeRecord]

/-- Settles O2: packing loses no bit of a tuple that fits the fields, and the tuple of an operation decodes to it. -/
theorem packedRecordDecodesToItsOperation : Obligations.PackedRecordDecodesToItsOperation :=
  fun _ => decodeWord_encodeWord

/-! ## The operand forms of the decoder -/

section
variable {r : Record} {i : Instr}

theorem takeNone_eq_ok {j : Instr} : takeNone r j = .ok i ↔ r.a = 0 ∧ r.b = 0 ∧ i = j := by
  unfold takeNone requireNoA requireNoB
  split_ifs with ha hb <;> simp_all [bind, Except.bind, eq_comm]

theorem takeB_eq_ok {f : Nat → Instr} : takeB r f = .ok i ↔ r.a = 0 ∧ i = f r.b := by
  unfold takeB requireNoA
  split_ifs with ha <;> simp [bind, Except.bind, ha, eq_comm]

theorem takeA_eq_ok {f : Nat → Instr} : takeA r f = .ok i ↔ r.b = 0 ∧ i = f r.a := by
  unfold takeA requireNoB
  split_ifs with hb <;> simp [bind, Except.bind, hb, eq_comm]

theorem takeAB_eq_ok {f : Nat → Nat → Instr} : takeAB r f = .ok i ↔ i = f r.a r.b := by
  simp [takeAB, eq_comm]

/-- R95: a `Bit` operand is 0 or 1, and stands for its level. -/
theorem bitOperand_eq_ok {l : Bit} : bitOperand r = .ok l ↔ r.b = bitValue l := by
  unfold bitOperand
  split
  next h => cases l <;> simp [h, bitValue]
  next h => cases l <;> simp [h, bitValue]
  next h0 h1 =>
    cases l
    case false => simpa [bitValue] using h0
    case true => simpa [bitValue] using h1

theorem takeBit_eq_ok {f : Bit → Instr} : takeBit r f = .ok i ↔ r.a = 0 ∧ ∃ l, r.b = bitValue l ∧ i = f l := by
  simp only [takeBit, ← bitOperand_eq_ok]
  unfold requireNoA
  cases bitOperand r <;> split_ifs with ha <;> simp [bind, Except.bind, ha, eq_comm]

theorem takeABit_eq_ok {f : Nat → Bit → Instr} : takeABit r f = .ok i ↔ ∃ l, r.b = bitValue l ∧ i = f r.a l := by
  simp only [takeABit, ← bitOperand_eq_ok]
  cases bitOperand r <;> simp [bind, Except.bind, eq_comm]

end

/-! ## The rows of the opcode table -/

/-- R94: the mask of a row, which always compares the opcode and compares the operand fields as given. -/
def opcodeMask (ma : BitVec 24) (mb : BitVec 32) : BitVec 64 := 15#4 ++ 15#4 ++ ma ++ mb

/-- R94: the pattern of a row, an opcode with its operand fields 0. -/
def opcodePattern (k o : BitVec 4) : BitVec 64 := k ++ o ++ 0#24 ++ 0#32

section
variable {k o : BitVec 4} {ma : BitVec 24} {mb : BitVec 32} {w : BitVec 64}

/-- R94: a record matches a row field by field. -/
theorem and_opcodeMask_eq_iff :
    w &&& opcodeMask ma mb = opcodePattern k o ↔
      (unpackRecord w).kind = k.toNat ∧ (unpackRecord w).op = o.toNat ∧
        BitVec.ofNat 24 (unpackRecord w).a &&& ma = 0 ∧ BitVec.ofNat 32 (unpackRecord w).b &&& mb = 0 := by
  obtain ⟨k', o', a, b, rfl⟩ := exists_fields w
  have hones : (15#4 : BitVec 4) = BitVec.allOnes 4 := rfl
  rw [opcodeMask, opcodePattern, BitVec.and_append, BitVec.and_append, BitVec.and_append, fields_inj, hones,
    BitVec.and_allOnes, BitVec.and_allOnes, unpackRecord_append]
  simp only [BitVec.toNat_inj, BitVec.ofNat_toNat, BitVec.setWidth_eq]
  rfl

/-- R98: a field that is compared whole must be 0. -/
theorem ofNat_and_allOnes_eq_zero_iff {n x : Nat} (hx : x < 2 ^ n) :
    BitVec.ofNat n x &&& BitVec.allOnes n = 0 ↔ x = 0 := by
  rw [BitVec.and_allOnes, ← BitVec.toNat_inj, BitVec.toNat_ofNat, Nat.mod_eq_of_lt hx]
  rfl

/-- R95: the mask of a `Bit` operand leaves the record's bit 0 free. -/
theorem ofNat_and_bitMask_eq_zero_iff {x : Nat} (hx : x < 2 ^ 32) :
    BitVec.ofNat 32 x &&& 0xFFFFFFFE#32 = 0 ↔ ∃ l, x = bitValue l := by
  have hsplit : BitVec.ofNat 32 x = BitVec.ofNat 31 (x / 2) ++ BitVec.ofNat 1 x := by
    rw [← BitVec.toNat_inj, BitVec.toNat_append, BitVec.toNat_ofNat, BitVec.toNat_ofNat, BitVec.toNat_ofNat,
      ← Nat.shiftLeft_add_eq_or_of_lt (Nat.mod_lt x (by decide)), Nat.shiftLeft_eq]
    omega
  have hmask : 0xFFFFFFFE#32 = BitVec.allOnes 31 ++ 0#1 := by decide
  have hzero : (0 : BitVec 32) = 0#31 ++ 0#1 := by decide
  rw [hsplit, hmask, hzero, BitVec.and_append, BitVec.and_allOnes, BitVec.and_zero, BitVec.append_left_inj,
    ← BitVec.toNat_inj, BitVec.toNat_ofNat, BitVec.toNat_ofNat, Bool.exists_bool]
  simp only [bitValue, Bool.false_eq_true, if_true, if_false]
  omega

end

/-! ### Rows and operand forms -/

/-- R94, R96, R98: a row of the table describes the opcode `(k, o)`: it is matched by the records of that opcode that decode, and
names the operation each decodes to, whose tuple the record is. -/
structure OpcodeRow.Describes (row : OpcodeRow) (k o : Nat) : Prop where
  matches_iff : ∀ w, w &&& row.mask = row.pattern ↔
    (unpackRecord w).kind = k ∧ (unpackRecord w).op = o ∧ ∃ i, decodeRecord (unpackRecord w) = .ok i
  names : ∀ r i, r.kind = k → r.op = o → decodeRecord r = .ok i → i.mnemonic = row.mnemonic ∧ encodeRecord i = r

section
variable {k o : BitVec 4} {m : String}

theorem unpackRecord_lt (w : BitVec 64) : (unpackRecord w).a < 2 ^ 24 ∧ (unpackRecord w).b < 2 ^ 32 :=
  ⟨BitVec.isLt _, BitVec.isLt _⟩

/-- A row describes its opcode where its mask and the decoder put the same condition on the operands. -/
theorem describes_of_operands {ma : BitVec 24} {mb : BitVec 32} {take : Record → Except DecodeError Instr}
    (hdecode : ∀ a b, decodeRecord ⟨k.toNat, o.toNat, a, b⟩ = take ⟨k.toNat, o.toNat, a, b⟩)
    (hmask : ∀ r : Record, r.a < 2 ^ 24 → r.b < 2 ^ 32 →
      (BitVec.ofNat 24 r.a &&& ma = 0 ∧ BitVec.ofNat 32 r.b &&& mb = 0 ↔ ∃ i, take r = .ok i))
    (hnames : ∀ a b i, take ⟨k.toNat, o.toNat, a, b⟩ = .ok i →
      i.mnemonic = m ∧ encodeRecord i = ⟨k.toNat, o.toNat, a, b⟩) :
    OpcodeRow.Describes ⟨m, opcodePattern k o, opcodeMask ma mb⟩ k.toNat o.toNat := by
  have htake : ∀ r : Record, r.kind = k.toNat → r.op = o.toNat → decodeRecord r = take r := by
    rintro ⟨_, _, a, b⟩ rfl rfl
    exact hdecode a b
  constructor
  case matches_iff =>
    intro w
    obtain ⟨ha, hb⟩ := unpackRecord_lt w
    rw [and_opcodeMask_eq_iff, hmask _ ha hb]
    exact and_congr_right fun hk => and_congr_right fun ho => by rw [htake _ hk ho]
  case names =>
    rintro ⟨_, _, a, b⟩ i rfl rfl h
    exact hnames a b i (hdecode a b ▸ h)

/-! One lemma for each operand form: its mask, and what decodes under it. -/

theorem describes_takeNone (i : Instr)
    (hdecode : ∀ a b, decodeRecord ⟨k.toNat, o.toNat, a, b⟩ = takeNone ⟨k.toNat, o.toNat, a, b⟩ i)
    (h : i.mnemonic = m ∧ encodeRecord i = ⟨k.toNat, o.toNat, 0, 0⟩) :
    OpcodeRow.Describes ⟨m, opcodePattern k o, opcodeMask (BitVec.allOnes 24) (BitVec.allOnes 32)⟩ k.toNat o.toNat := by
  refine describes_of_operands (take := (takeNone · i)) hdecode (fun r ha hb => ?operands) fun a b j hj => ?names
  case operands =>
    rw [ofNat_and_allOnes_eq_zero_iff ha, ofNat_and_allOnes_eq_zero_iff hb]
    simp [takeNone_eq_ok]
  case names =>
    obtain ⟨rfl, rfl, rfl⟩ := takeNone_eq_ok.mp hj
    exact h

theorem describes_takeB (f : Nat → Instr)
    (hdecode : ∀ a b, decodeRecord ⟨k.toNat, o.toNat, a, b⟩ = takeB ⟨k.toNat, o.toNat, a, b⟩ f)
    (h : ∀ b, (f b).mnemonic = m ∧ encodeRecord (f b) = ⟨k.toNat, o.toNat, 0, b⟩) :
    OpcodeRow.Describes ⟨m, opcodePattern k o, opcodeMask (BitVec.allOnes 24) 0⟩ k.toNat o.toNat := by
  refine describes_of_operands (take := (takeB · f)) hdecode (fun r ha _ => ?operands) fun a b j hj => ?names
  case operands =>
    rw [ofNat_and_allOnes_eq_zero_iff ha]
    simp [takeB_eq_ok]
  case names =>
    obtain ⟨rfl, rfl⟩ := takeB_eq_ok.mp hj
    exact h b

theorem describes_takeBit (f : Bit → Instr)
    (hdecode : ∀ a b, decodeRecord ⟨k.toNat, o.toNat, a, b⟩ = takeBit ⟨k.toNat, o.toNat, a, b⟩ f)
    (h : ∀ l, (f l).mnemonic = m ∧ encodeRecord (f l) = ⟨k.toNat, o.toNat, 0, bitValue l⟩) :
    OpcodeRow.Describes ⟨m, opcodePattern k o, opcodeMask (BitVec.allOnes 24) 0xFFFFFFFE#32⟩ k.toNat o.toNat := by
  refine describes_of_operands (take := (takeBit · f)) hdecode (fun r ha hb => ?operands) fun a b j hj => ?names
  case operands =>
    rw [ofNat_and_allOnes_eq_zero_iff ha, ofNat_and_bitMask_eq_zero_iff hb]
    simp [takeBit_eq_ok, exists_or]
  case names =>
    obtain ⟨rfl, l, rfl, rfl⟩ := takeBit_eq_ok.mp hj
    exact h l

theorem describes_takeA (f : Nat → Instr)
    (hdecode : ∀ a b, decodeRecord ⟨k.toNat, o.toNat, a, b⟩ = takeA ⟨k.toNat, o.toNat, a, b⟩ f)
    (h : ∀ a, (f a).mnemonic = m ∧ encodeRecord (f a) = ⟨k.toNat, o.toNat, a, 0⟩) :
    OpcodeRow.Describes ⟨m, opcodePattern k o, opcodeMask 0 (BitVec.allOnes 32)⟩ k.toNat o.toNat := by
  refine describes_of_operands (take := (takeA · f)) hdecode (fun r _ hb => ?operands) fun a b j hj => ?names
  case operands =>
    rw [ofNat_and_allOnes_eq_zero_iff hb]
    simp [takeA_eq_ok]
  case names =>
    obtain ⟨rfl, rfl⟩ := takeA_eq_ok.mp hj
    exact h a

theorem describes_takeAB (f : Nat → Nat → Instr)
    (hdecode : ∀ a b, decodeRecord ⟨k.toNat, o.toNat, a, b⟩ = takeAB ⟨k.toNat, o.toNat, a, b⟩ f)
    (h : ∀ a b, (f a b).mnemonic = m ∧ encodeRecord (f a b) = ⟨k.toNat, o.toNat, a, b⟩) :
    OpcodeRow.Describes ⟨m, opcodePattern k o, opcodeMask 0 0⟩ k.toNat o.toNat := by
  refine describes_of_operands (take := (takeAB · f)) hdecode (fun r _ _ => ?operands) fun a b j hj => ?names
  case operands => simp [takeAB_eq_ok]
  case names =>
    obtain rfl := takeAB_eq_ok.mp hj
    exact h a b

theorem describes_takeABit (f : Nat → Bit → Instr)
    (hdecode : ∀ a b, decodeRecord ⟨k.toNat, o.toNat, a, b⟩ = takeABit ⟨k.toNat, o.toNat, a, b⟩ f)
    (h : ∀ a l, (f a l).mnemonic = m ∧ encodeRecord (f a l) = ⟨k.toNat, o.toNat, a, bitValue l⟩) :
    OpcodeRow.Describes ⟨m, opcodePattern k o, opcodeMask 0 0xFFFFFFFE#32⟩ k.toNat o.toNat := by
  refine describes_of_operands (take := (takeABit · f)) hdecode (fun r _ hb => ?operands) fun a b j hj => ?names
  case operands =>
    rw [ofNat_and_bitMask_eq_zero_iff hb]
    simp [takeABit_eq_ok, exists_or]
  case names =>
    obtain ⟨l, rfl, rfl⟩ := takeABit_eq_ok.mp hj
    exact h a l

end

/-! ### The rows of each kind -/

/-- R96: the rows of a kind number. -/
def rowsOfKind : Nat → List OpcodeRow
  | 1 => srlRows
  | 2 => dffRows
  | 3 => srffRows
  | 4 => tffRows
  | 5 => muxRows
  | 6 => dmxRows
  | 7 => cellRows
  | 8 => blkRows
  | 9 => drvRows
  | 10 => ctlRows
  | _ => []

/-- R96: the table lists the rows kind by kind. -/
theorem opcodeTable_eq_flatMap : opcodeTable = (List.range 16).flatMap rowsOfKind := rfl

/-- R96, R98: a record that decodes has an opcode of its kind's rows. -/
theorem op_lt_of_decodeRecord {r : Record} {i : Instr} (h : decodeRecord r = .ok i) :
    r.op < (rowsOfKind r.kind).length := by
  unfold decodeRecord at h
  split at h
  case h_11 => cases h
  all_goals
    next hkind =>
      unfold rowsOfKind
      simp only [decodeSrl, decodeDff, decodeSrff, decodeTff, decodeMux, decodeDmx, decodeCell, decodeBlk, decodeDrv,
        decodeCtl] at h
      split at h <;>
        simp_all [srlRows, dffRows, srffRows, tffRows, muxRows, dmxRows, cellRows, blkRows, drvRows, ctlRows]

/-- R96: the rows of a kind describe its opcodes from `o` on. -/
def RowsDescribe (k : Nat) : Nat → List OpcodeRow → Prop
  | _, [] => True
  | o, row :: rows => row.Describes k o ∧ RowsDescribe k (o + 1) rows

theorem RowsDescribe.describes {k o j : Nat} {rows : List OpcodeRow} {row : OpcodeRow} (h : RowsDescribe k o rows)
    (hrow : rows[j]? = some row) : row.Describes k (o + j) := by
  induction rows generalizing o j with
  | nil => simp at hrow
  | cons x rest ih =>
    obtain ⟨hx, hrest⟩ := h
    cases j with
    | zero =>
      obtain rfl : x = row := by simpa using hrow
      exact hx
    | succ j =>
      rw [Nat.add_succ, ← Nat.succ_add]
      exact ih hrest (by simpa using hrow)

theorem rowsDescribe_srl : RowsDescribe 1 0 srlRows :=
  ⟨describes_takeB (k := 1) (o := 0) .srlSet (fun _ _ => rfl) fun _ => ⟨rfl, rfl⟩,
    describes_takeNone (k := 1) (o := 1) .srlReset (fun _ _ => rfl) ⟨rfl, rfl⟩,
    describes_takeNone (k := 1) (o := 2) .srlRead (fun _ _ => rfl) ⟨rfl, rfl⟩, trivial⟩

theorem rowsDescribe_dff : RowsDescribe 2 0 dffRows :=
  ⟨describes_takeB (k := 2) (o := 0) .dffSetData (fun _ _ => rfl) fun _ => ⟨rfl, rfl⟩,
    describes_takeBit (k := 2) (o := 1) .dffSetClock (fun _ _ => rfl) fun _ => ⟨rfl, rfl⟩,
    describes_takeNone (k := 2) (o := 2) .dffReset (fun _ _ => rfl) ⟨rfl, rfl⟩,
    describes_takeNone (k := 2) (o := 3) .dffRead (fun _ _ => rfl) ⟨rfl, rfl⟩, trivial⟩

theorem rowsDescribe_srff : RowsDescribe 3 0 srffRows :=
  ⟨describes_takeBit (k := 3) (o := 0) .srffSetSetQueue (fun _ _ => rfl) fun _ => ⟨rfl, rfl⟩,
    describes_takeBit (k := 3) (o := 1) .srffSetResetQueue (fun _ _ => rfl) fun _ => ⟨rfl, rfl⟩,
    describes_takeBit (k := 3) (o := 2) .srffSetClock (fun _ _ => rfl) fun _ => ⟨rfl, rfl⟩,
    describes_takeNone (k := 3) (o := 3) .srffRead (fun _ _ => rfl) ⟨rfl, rfl⟩, trivial⟩

theorem rowsDescribe_tff : RowsDescribe 4 0 tffRows :=
  ⟨describes_takeBit (k := 4) (o := 0) .tffSetInputQueue (fun _ _ => rfl) fun _ => ⟨rfl, rfl⟩,
    describes_takeBit (k := 4) (o := 1) .tffSetClock (fun _ _ => rfl) fun _ => ⟨rfl, rfl⟩,
    describes_takeNone (k := 4) (o := 2) .tffRead (fun _ _ => rfl) ⟨rfl, rfl⟩, trivial⟩

theorem rowsDescribe_mux : RowsDescribe 5 0 muxRows :=
  ⟨describes_takeAB (k := 5) (o := 0) .muxSetInputWord (fun _ _ => rfl) fun _ _ => ⟨rfl, rfl⟩,
    describes_takeB (k := 5) (o := 1) .muxSetSelector (fun _ _ => rfl) fun _ => ⟨rfl, rfl⟩,
    describes_takeBit (k := 5) (o := 2) .muxSetChipSelect (fun _ _ => rfl) fun _ => ⟨rfl, rfl⟩,
    describes_takeNone (k := 5) (o := 3) .muxIsNarrow (fun _ _ => rfl) ⟨rfl, rfl⟩,
    describes_takeNone (k := 5) (o := 4) .muxRead (fun _ _ => rfl) ⟨rfl, rfl⟩, trivial⟩

theorem rowsDescribe_dmx : RowsDescribe 6 0 dmxRows :=
  ⟨describes_takeB (k := 6) (o := 0) .dmxSetInputWord (fun _ _ => rfl) fun _ => ⟨rfl, rfl⟩,
    describes_takeBit (k := 6) (o := 1) .dmxSetChipSelect (fun _ _ => rfl) fun _ => ⟨rfl, rfl⟩,
    describes_takeB (k := 6) (o := 2) .dmxSetSelector (fun _ _ => rfl) fun _ => ⟨rfl, rfl⟩,
    describes_takeNone (k := 6) (o := 3) .dmxIsNarrow (fun _ _ => rfl) ⟨rfl, rfl⟩,
    describes_takeA (k := 6) (o := 4) .dmxRead (fun _ _ => rfl) fun _ => ⟨rfl, rfl⟩, trivial⟩

theorem rowsDescribe_cell : RowsDescribe 7 0 cellRows :=
  ⟨describes_takeB (k := 7) (o := 0) .cellSetInput (fun _ _ => rfl) fun _ => ⟨rfl, rfl⟩,
    describes_takeBit (k := 7) (o := 1) .cellSetChipSelect (fun _ _ => rfl) fun _ => ⟨rfl, rfl⟩,
    describes_takeBit (k := 7) (o := 2) .cellSetWriteEnable (fun _ _ => rfl) fun _ => ⟨rfl, rfl⟩,
    describes_takeBit (k := 7) (o := 3) .cellSetClock (fun _ _ => rfl) fun _ => ⟨rfl, rfl⟩,
    describes_takeNone (k := 7) (o := 4) .cellRead (fun _ _ => rfl) ⟨rfl, rfl⟩, trivial⟩

theorem rowsDescribe_blk : RowsDescribe 8 0 blkRows :=
  ⟨describes_takeBit (k := 8) (o := 0) .blkSetChipSelect (fun _ _ => rfl) fun _ => ⟨rfl, rfl⟩,
    describes_takeBit (k := 8) (o := 1) .blkSetWriteEnable (fun _ _ => rfl) fun _ => ⟨rfl, rfl⟩,
    describes_takeBit (k := 8) (o := 2) .blkSetClock (fun _ _ => rfl) fun _ => ⟨rfl, rfl⟩,
    describes_takeB (k := 8) (o := 3) .blkSetAddress (fun _ _ => rfl) fun _ => ⟨rfl, rfl⟩,
    describes_takeB (k := 8) (o := 4) .blkSetFeed (fun _ _ => rfl) fun _ => ⟨rfl, rfl⟩,
    describes_takeNone (k := 8) (o := 5) .blkReadWord (fun _ _ => rfl) ⟨rfl, rfl⟩, trivial⟩

theorem rowsDescribe_drv : RowsDescribe 9 0 drvRows :=
  ⟨describes_takeBit (k := 9) (o := 0) .drvSetChipSelect (fun _ _ => rfl) fun _ => ⟨rfl, rfl⟩,
    describes_takeBit (k := 9) (o := 1) .drvSetWriteEnable (fun _ _ => rfl) fun _ => ⟨rfl, rfl⟩,
    describes_takeB (k := 9) (o := 2) .drvSetAddress (fun _ _ => rfl) fun _ => ⟨rfl, rfl⟩,
    describes_takeBit (k := 9) (o := 3) .drvSetClock (fun _ _ => rfl) fun _ => ⟨rfl, rfl⟩,
    describes_takeNone (k := 9) (o := 4) .drvReadWord (fun _ _ => rfl) ⟨rfl, rfl⟩,
    describes_takeB (k := 9) (o := 5) .drvDetermineBlockIndex (fun _ _ => rfl) fun _ => ⟨rfl, rfl⟩,
    describes_takeB (k := 9) (o := 6) .drvSetFeed (fun _ _ => rfl) fun _ => ⟨rfl, rfl⟩,
    describes_takeNone (k := 9) (o := 7) .drvAddressWidth (fun _ _ => rfl) ⟨rfl, rfl⟩, trivial⟩

theorem rowsDescribe_ctl : RowsDescribe 10 0 ctlRows :=
  ⟨describes_takeABit (k := 10) (o := 0) .ctlSetChipSelect (fun _ _ => rfl) fun _ _ => ⟨rfl, rfl⟩,
    describes_takeABit (k := 10) (o := 1) .ctlSetWriteEnable (fun _ _ => rfl) fun _ _ => ⟨rfl, rfl⟩,
    describes_takeAB (k := 10) (o := 2) .ctlSetAddress (fun _ _ => rfl) fun _ _ => ⟨rfl, rfl⟩,
    describes_takeAB (k := 10) (o := 3) .ctlSetFeed (fun _ _ => rfl) fun _ _ => ⟨rfl, rfl⟩,
    describes_takeBit (k := 10) (o := 4) .ctlSetClock (fun _ _ => rfl) fun _ => ⟨rfl, rfl⟩,
    describes_takeA (k := 10) (o := 5) .ctlReadResponse (fun _ _ => rfl) fun _ => ⟨rfl, rfl⟩, trivial⟩

/-- R96: row `o` of kind `k` describes the opcode `(k, o)`. -/
theorem describes_of_rowsOfKind {k o : Nat} {row : OpcodeRow} (h : (rowsOfKind k)[o]? = some row) : row.Describes k o := by
  have hrows : RowsDescribe k 0 (rowsOfKind k) := by
    unfold rowsOfKind
    split
    case h_1 => exact rowsDescribe_srl
    case h_2 => exact rowsDescribe_dff
    case h_3 => exact rowsDescribe_srff
    case h_4 => exact rowsDescribe_tff
    case h_5 => exact rowsDescribe_mux
    case h_6 => exact rowsDescribe_dmx
    case h_7 => exact rowsDescribe_cell
    case h_8 => exact rowsDescribe_blk
    case h_9 => exact rowsDescribe_drv
    case h_10 => exact rowsDescribe_ctl
    case h_11 => trivial
  simpa using hrows.describes h

/-- R96, R98: a record that decodes has the opcode of a row. -/
theorem exists_row_of_decodeRecord {r : Record} {i : Instr} (h : decodeRecord r = .ok i) :
    ∃ row ∈ rowsOfKind r.kind, row.Describes r.kind r.op := by
  have hrow := List.getElem?_eq_getElem (op_lt_of_decodeRecord h)
  exact ⟨_, List.mem_of_getElem? hrow, describes_of_rowsOfKind hrow⟩

/-- R93, R98: a tuple that decodes is the tuple of its operation. -/
theorem encodeRecord_of_decodeRecord {r : Record} {i : Instr} (h : decodeRecord r = .ok i) : encodeRecord i = r := by
  obtain ⟨row, -, hrow⟩ := exists_row_of_decodeRecord h
  exact (hrow.names r i rfl rfl h).2

/-- Settles O3: the tuple in the record's fields is the operation's, and a record is the packing of its fields. -/
theorem decodedOperationEncodesToItsRecord : Obligations.DecodedOperationEncodesToItsRecord := by
  intro w i h
  rw [encodeWord, encodeRecord_of_decodeRecord h, packRecord_unpackRecord]

/-- Settles O4: every record that decodes has the opcode of a row, and each row describes its opcode. -/
theorem decoderFollowsTheOpcodeTable : Obligations.DecoderFollowsTheOpcodeTable := by
  refine fun w => ⟨fun i hi => ?accepted, fun row hmem hmatch => ?matched⟩
  case accepted =>
    obtain ⟨row, hmem, hrow⟩ := exists_row_of_decodeRecord hi
    have hkind : (unpackRecord w).kind < 16 := BitVec.isLt _
    refine ⟨row, ?_, (hrow.names _ i rfl rfl hi).1.symm, (hrow.matches_iff w).mpr ⟨rfl, rfl, i, hi⟩⟩
    rw [opcodeTable_eq_flatMap]
    exact List.mem_flatMap_of_mem (List.mem_range.mpr hkind) hmem
  case matched =>
    rw [opcodeTable_eq_flatMap] at hmem
    obtain ⟨k, -, hmem⟩ := List.mem_flatMap.mp hmem
    obtain ⟨o, ho⟩ := List.getElem?_of_mem hmem
    have hrow := describes_of_rowsOfKind ho
    obtain ⟨hk, ho, i, hi⟩ := (hrow.matches_iff w).mp hmatch
    exact ⟨i, hi, (hrow.names _ i hk ho hi).1⟩

/-- Settles O1: each record written out is evaluated. -/
theorem writtenOutRecordsDecode : Obligations.WrittenOutRecordsDecode := by
  unfold Obligations.WrittenOutRecordsDecode
  decide

end Sys2Proof
end

section
/-! SUPPORT. What the caller may issue (30_encoding.md R94 to R98, 00_scope.md R7 to R10): the operand ranges, the parameters of a
construction, and the step as the operation at the head of the caller's list, its refusal, or a fault repeated. -/

namespace Sys2Proof

/-! ## Operands -/

section
variable {p : Widths} {n x : Nat} {e : OperandError}

theorem requireBelow_eq_ok_iff {bound : Nat} : requireBelow x bound e = .ok () ↔ x < bound := by
  unfold requireBelow
  split_ifs with h <;> simp [h]

theorem checkWord_eq_ok_iff : checkWord p x = .ok () ↔ x < 2 ^ p.wordBits := requireBelow_eq_ok_iff

theorem checkSel_eq_ok_iff : checkSel p x = .ok () ↔ x < 2 ^ p.addrBits := requireBelow_eq_ok_iff

theorem checkIndex_eq_ok_iff : checkIndex p x = .ok () ↔ x < 2 ^ min p.addrBits 24 := requireBelow_eq_ok_iff

theorem checkCore_eq_ok_iff : checkCore n x = .ok () ↔ x < n := requireBelow_eq_ok_iff

/-- Two checks in a row pass where both do. -/
theorem bind_eq_ok_iff {ε : Type} {c c' : Except ε Unit} :
    (c >>= fun _ => c') = .ok () ↔ c = .ok () ∧ c' = .ok () := by
  cases c <;> simp [bind, Except.bind]

/-- R97, R98: an operation is well formed against its own fixture where its operands pass their checks. -/
theorem wellFormed_iff_checkOperands {k : Kind} {i : Instr} :
    i.WellFormed p n k = true ↔ i.kind = k ∧ checkOperands p n i = .ok () := by
  unfold Instr.WellFormed checkOperation
  split_ifs with hk
  · cases h : checkOperands p n i <;> simp [hk]
  · simp [hk]

end

/-- Settles O5: the checks of each operation, one by one. -/
theorem operandsLieInTheirTypes : Obligations.OperandsLieInTheirTypes := by
  intro p n k i
  rw [wellFormed_iff_checkOperands]
  refine and_congr_right fun _ => ?_
  cases i with
  | srlSet | dffSetData | dmxSetInputWord | cellSetInput | blkSetFeed | drvSetFeed => exact checkWord_eq_ok_iff
  | muxSetSelector | dmxSetSelector | blkSetAddress | drvSetAddress | drvDetermineBlockIndex => exact checkSel_eq_ok_iff
  | dmxRead => exact checkIndex_eq_ok_iff
  | muxSetInputWord => exact bind_eq_ok_iff.trans (and_congr checkIndex_eq_ok_iff checkWord_eq_ok_iff)
  | ctlSetChipSelect | ctlSetWriteEnable | ctlReadResponse => exact checkCore_eq_ok_iff
  | ctlSetAddress => exact bind_eq_ok_iff.trans (and_congr checkCore_eq_ok_iff checkSel_eq_ok_iff)
  | ctlSetFeed => exact bind_eq_ok_iff.trans (and_congr checkCore_eq_ok_iff checkWord_eq_ok_iff)
  | _ => exact iff_of_true rfl trivial

/-! ## Constructions -/

theorem require_eq_ok_iff {ok : Bool} {e : ConstructionError} : require ok e = .ok () ↔ ok = true := by
  cases ok <;> simp [require]

theorem checkBlocks_eq_ok_iff {p : Widths} {sizes : List Nat} :
    checkBlocks p sizes = .ok () ↔ sizes ≠ [] ∧ (∀ n ∈ sizes, 0 < n) ∧ totalLines sizes ≤ 2 ^ p.addrBits := by
  simp [checkBlocks, bind_eq_ok_iff, require_eq_ok_iff]

/-- R7 to R10: the parameters of a construction, requirement by requirement. -/
theorem checkConfig_eq_ok_iff {c : Config} :
    checkConfig c = .ok () ↔ 0 < c.widths.wordBits ∧ 0 < c.widths.addrBits ∧ 0 < c.muxInputs ∧ 0 < c.dmxOutputs ∧
      0 < c.blkLines ∧ (c.drvBlocks ≠ [] ∧ (∀ n ∈ c.drvBlocks, 0 < n) ∧ totalLines c.drvBlocks ≤ 2 ^ c.widths.addrBits) ∧
      0 < c.coreCount ∧ c.ctlBlocks ≠ [] ∧ (∀ n ∈ c.ctlBlocks, 0 < n) ∧ totalLines c.ctlBlocks ≤ 2 ^ c.widths.addrBits := by
  simp only [checkConfig, bind_eq_ok_iff, require_eq_ok_iff, checkBlocks_eq_ok_iff, decide_eq_true_eq]

theorem Config.wellFormed_iff {c : Config} : c.WellFormed = true ↔ checkConfig c = .ok () := by
  unfold Config.WellFormed
  cases checkConfig c <;> simp

end Sys2Proof

namespace Sys2Proof.Machine

/-- R238: building a state is constructing it, where the parameters pass. -/
theorem State.build_eq_ok_iff {c : Config} {s : State} :
    State.build c = .ok s ↔ checkConfig c = .ok () ∧ s = State.construct c := by
  unfold State.build
  cases checkConfig c <;> simp [eq_comm]

/-- Settles O59: the requirements of `checkConfig`, in the statement's order. -/
theorem constructionRefusesDegenerateParameters : Obligations.ConstructionRefusesDegenerateParameters := by
  intro c
  simp only [State.build_eq_ok_iff, exists_and_left, exists_eq, and_true, checkConfig_eq_ok_iff]
  exact ⟨by tauto, fun s h => h.2⟩

/-! ## The step -/

section
variable {s : State} {x : IssuedRecord} {rest : List IssuedRecord} {i : Instr}

/-- R4: a step runs the operation its head record is accepted as. -/
theorem step_of_acceptIssued (hs : s.status = .noFault) (hp : s.program = x :: rest) (ha : acceptIssued s x = .ok i) :
    step s = exec i (s.putProgram rest) := by
  simp only [step, hs, fetch_eq_operation.mpr ⟨x, hp, ha⟩]

/-- R98: a step is refused where its head record is not accepted. -/
theorem step_of_acceptIssued_error {e : Refusal} (hs : s.status = .noFault) (hp : s.program = x :: rest)
    (ha : acceptIssued s x = .error e) : step s = .refused e := by
  simp only [step, hs, fetch, hp, ha]

/-- R232: a faulted run ends every step in its fault. -/
theorem step_of_faulted {f : Fault} (hs : s.status = .faulted f) : step s = .fault f := by
  simp only [step, hs, raise]

/-- R98, R222: a per-core operation on a core that does not exist. -/
theorem onRecord_of_le {c : Nat} {go : QueueRecord → State} (h : s.ctl.queue.length ≤ c) :
    s.onRecord c go = .refused (.illFormed (.coreIdOutOfRange c)) := by
  rw [State.onRecord, List.getElem?_eq_none h]

end

/-- Settles O7: an accepted head record is run. -/
theorem stepRunsTheDecodedOperation : Obligations.StepRunsTheDecodedOperation :=
  fun _ _ _ _ hs hp hpacked hdecode hwf =>
    step_of_acceptIssued hs hp (acceptIssued_eq_ok.mpr ⟨hpacked, hdecode, hwf⟩)

/-- Settles O37: no record of that core, in all five operations. -/
theorem coreIdOutOfRangeIsRefused : Obligations.CoreIdOutOfRangeIsRefused :=
  fun _ _ h => ⟨fun _ => onRecord_of_le h, fun _ => onRecord_of_le h, fun _ => onRecord_of_le h,
    fun _ => onRecord_of_le h, onRecord_of_le h⟩

/-- R98, R222: against its core count, no meaning refuses a well-formed operation. -/
theorem exec_ne_refused {i : Instr} {s : State} {e : Refusal}
    (hwf : i.WellFormed s.widths s.ctl.queue.length s.fixture = true) : exec i s ≠ .refused e := by
  obtain ⟨-, hi⟩ := (operandsLieInTheirTypes _ _ _ _).mp hwf
  cases i with
  | muxSetInputWord | muxSetSelector | dmxSetSelector | dmxRead | blkReadWord | drvReadWord | drvDetermineBlockIndex
  | ctlSetClock => exact orRaise_ne_refused _ _ e
  | ctlSetChipSelect | ctlSetWriteEnable | ctlReadResponse =>
    exact ne_of_eq_of_ne (onRecord_of_record (List.getElem?_eq_getElem hi)) nofun
  | ctlSetAddress | ctlSetFeed =>
    exact ne_of_eq_of_ne (onRecord_of_record (List.getElem?_eq_getElem hi.1)) nofun
  | _ => exact nofun

theorem Except.exists_eq_error_iff {ε α : Type} {r : Except ε α} : (∃ e, r = .error e) ↔ ∀ a, r ≠ .ok a := by
  cases r <;> simp

/-- R94, R98: what the caller may not issue. -/
theorem acceptIssued_eq_error_iff {s : State} {x : IssuedRecord} :
    (∃ e, acceptIssued s x = .error e) ↔
      (s.hasPackedForm = false ∧ ∃ w, x = .packed w) ∨ (∃ e, decodeRecord x.record = .error e) ∨
      (∃ i, decodeRecord x.record = .ok i ∧ i.WellFormed s.widths s.ctl.queue.length s.fixture = false) := by
  have hpacked : (∀ w, x = .packed w → s.hasPackedForm = true) ↔ ¬(s.hasPackedForm = false ∧ ∃ w, x = .packed w) := by
    cases s.hasPackedForm <;> simp
  rw [Except.exists_eq_error_iff]
  simp only [ne_eq, acceptIssued_eq_ok, hpacked]
  cases decodeRecord x.record with
  | error e => simp
  | ok i =>
    by_cases h : s.hasPackedForm = false ∧ ∃ w, x = .packed w
    · exact iff_of_true (fun _ ⟨hunpacked, _⟩ => hunpacked h) (.inl h)
    · simp only [h, not_false_eq_true, true_and, Except.ok.injEq, reduceCtorEq, exists_false, false_or, not_and,
        forall_eq', exists_eq_left', Bool.not_eq_true, Controller.coreCount]

/-- Settles O6: a step is refused where its head record is not accepted, and no meaning refuses an accepted operation. -/
theorem stepRefusesExactlyTheReservedRecords : Obligations.StepRefusesExactlyTheReservedRecords := by
  intro s x rest hs hp
  rw [← acceptIssued_eq_error_iff]
  cases ha : acceptIssued s x with
  | error e => simp [step_of_acceptIssued_error hs hp ha]
  | ok i =>
    obtain ⟨-, -, hwf⟩ := acceptIssued_eq_ok.mp ha
    rw [step_of_acceptIssued hs hp ha]
    exact iff_of_false (fun ⟨e, he⟩ => exec_ne_refused (s := s.putProgram rest) hwf he) (by simp)

/-! ## Faults -/

theorem advance_of_faulted {s : State} {f : Fault} (hs : s.status = .faulted f) : advance s = s := by
  simp only [advance, step_of_faulted hs, hs]

/-- R232: the status after any number of steps from a fault. -/
theorem iterate_advance_of_fault {s : State} {f : Fault} (hs : s.status = .noFault) (h : step s = .fault f) (k : Nat) :
    advance^[k + 1] s = s.afterFault f := by
  have hfirst : advance s = s.afterFault f := by simp only [advance, h, hs]
  rw [Function.iterate_succ_apply, hfirst, Function.iterate_fixed (advance_of_faulted (State.afterFault_status s f))]

/-- Settles O46: after its fault a run is at `State.afterFault` for ever. -/
theorem faultIsAbsorbing : Obligations.FaultIsAbsorbing := by
  refine ⟨fun s f => step_of_faulted, fun s f k hs h => ?_⟩
  rw [iterate_advance_of_fault hs h]
  exact ⟨State.afterFault_status s f, step_of_faulted (State.afterFault_status s f)⟩

/-! ## The packed form -/

theorem bitValue_lt (l : Bit) : bitValue l < 2 ^ 32 := by
  cases l <;> decide

theorem encodeRecord_opcode_lt (i : Instr) : (encodeRecord i).kind < 16 ∧ (encodeRecord i).op < 16 := by
  cases i <;> simp [encodeRecord]

/-- R94: the configurations with a packed form, by the fixture. -/
theorem hasPackedForm_iff {s : State} :
    s.hasPackedForm = true ↔ s.widths.wordBits ≤ 32 ∧ s.widths.addrBits ≤ 32 ∧
      (s.fixture = .ctl → s.ctl.queue.length ≤ 2 ^ 24) ∧ ∀ n ∈ s.routerSizes, n ≤ 2 ^ 24 := by
  unfold State.hasPackedForm Sys2Proof.hasPackedForm
  rw [Bool.and_eq_true, Bool.and_eq_true, Bool.and_eq_true, List.all_eq_true, and_assoc, and_assoc]
  simp only [decide_eq_true_eq]
  split_ifs with hctl <;> simp [hctl, Controller.coreCount]

/-- R94: a well-formed operation of a configuration with a packed form fits its packed record. -/
theorem packable_of_wellFormed {s : State} {i : Instr} (hp : s.hasPackedForm = true)
    (hwf : i.WellFormed s.widths s.ctl.queue.length s.fixture = true) : (encodeRecord i).Packable := by
  obtain ⟨hword, haddr, hcores, -⟩ := hasPackedForm_iff.mp hp
  obtain ⟨hkind, hi⟩ := (operandsLieInTheirTypes _ _ _ _).mp hwf
  have hWord : ∀ w, w < 2 ^ s.widths.wordBits → w < 2 ^ 32 := fun w h => h.trans_le (Nat.pow_le_pow_right two_pos hword)
  have hSel : ∀ a, a < 2 ^ s.widths.addrBits → a < 2 ^ 32 := fun a h => h.trans_le (Nat.pow_le_pow_right two_pos haddr)
  have hIndex : ∀ a, a < 2 ^ min s.widths.addrBits 24 → a < 2 ^ 24 :=
    fun a h => h.trans_le (Nat.pow_le_pow_right two_pos (min_le_right _ _))
  have hCore : .ctl = s.fixture → ∀ c, c < s.ctl.queue.length → c < 2 ^ 24 := fun h c hc => hc.trans_le (hcores h.symm)
  obtain ⟨hk, ho⟩ := encodeRecord_opcode_lt i
  refine ⟨hk, ho, ?_⟩
  cases i with
  | srlSet | dffSetData | dmxSetInputWord | cellSetInput | blkSetFeed | drvSetFeed =>
    exact ⟨Nat.two_pow_pos 24, hWord _ hi⟩
  | muxSetSelector | dmxSetSelector | blkSetAddress | drvSetAddress | drvDetermineBlockIndex =>
    exact ⟨Nat.two_pow_pos 24, hSel _ hi⟩
  | dmxRead => exact ⟨hIndex _ hi, Nat.two_pow_pos 32⟩
  | muxSetInputWord => exact ⟨hIndex _ hi.1, hWord _ hi.2⟩
  | ctlSetChipSelect c l | ctlSetWriteEnable c l => exact ⟨hCore hkind _ hi, bitValue_lt l⟩
  | ctlReadResponse => exact ⟨hCore hkind _ hi, Nat.two_pow_pos 32⟩
  | ctlSetAddress => exact ⟨hCore hkind _ hi.1, hSel _ hi.2⟩
  | ctlSetFeed => exact ⟨hCore hkind _ hi.1, hWord _ hi.2⟩
  | dffSetClock l | srffSetSetQueue l | srffSetResetQueue l | srffSetClock l | tffSetInputQueue l | tffSetClock l
  | muxSetChipSelect l | dmxSetChipSelect l | cellSetChipSelect l | cellSetWriteEnable l | cellSetClock l
  | blkSetChipSelect l | blkSetWriteEnable l | blkSetClock l | drvSetChipSelect l | drvSetWriteEnable l
  | drvSetClock l | ctlSetClock l => exact ⟨Nat.two_pow_pos 24, bitValue_lt l⟩
  | _ => exact ⟨Nat.two_pow_pos 24, Nat.two_pow_pos 32⟩

/-- R96, R97: the tuple of an operation names the operation's kind. -/
theorem kindOfCode_encodeRecord (i : Instr) : kindOfCode (encodeRecord i).kind = some i.kind := by
  cases i <;> rfl

/-- R97: issuing an operation of the fixture's kind leaves the fixture. -/
theorem issue_eq_of_kind {s : State} {x : IssuedRecord} (h : kindOfCode x.record.kind = some s.fixture) :
    s.issue x = s.putProgram (x :: s.program) := by
  rw [State.issue, h]
  rfl

/-- R94: an operation issued as its packed record is what the next step runs. -/
theorem step_issue_packed {s : State} {i : Instr} (hp : s.hasPackedForm = true) (hs : s.status = .noFault)
    (hwf : i.WellFormed s.widths s.ctl.queue.length s.fixture = true) :
    step (s.issue (.packed (encodeWord i))) = exec i s := by
  obtain ⟨hkind, -⟩ := wellFormed_iff_checkOperands.mp hwf
  have hrecord : unpackRecord (encodeWord i) = encodeRecord i := unpackRecord_packRecord (packable_of_wellFormed hp hwf)
  have hissue : s.issue (.packed (encodeWord i)) = s.putProgram (.packed (encodeWord i) :: s.program) :=
    issue_eq_of_kind (by rw [IssuedRecord.record, hrecord, kindOfCode_encodeRecord, hkind])
  have haccept : acceptIssued (s.putProgram (.packed (encodeWord i) :: s.program)) (.packed (encodeWord i)) = .ok i :=
    acceptIssued_eq_ok.mpr ⟨fun _ _ => hp, by rw [IssuedRecord.record, hrecord, decodeRecord_encodeRecord], hwf⟩
  rw [hissue]
  exact step_of_acceptIssued (s := s.putProgram (.packed (encodeWord i) :: s.program)) hs rfl haccept

/-- Settles O60: the condition by the fixture's kind, the packed record of a well-formed operation by its operand ranges, and the
refusal by `acceptIssued`. -/
theorem packedFormHoldsEveryWellFormedOperation : Obligations.PackedFormHoldsEveryWellFormedOperation := by
  refine fun s => ⟨?condition, fun i hp hwf => ?holds, fun w rest hs hprogram hp => ?refused⟩
  case condition =>
    rw [hasPackedForm_iff]
    refine and_congr_right fun _ => and_congr_right fun _ => ?_
    cases h : s.fixture <;> simp [State.routerSizes, h, Multiplexer.n, MemoryBlock.n, Driver.sizes]
  case holds =>
    have hpackable := packable_of_wellFormed hp hwf
    exact ⟨hpackable, decodeWord_encodeWord hpackable, fun hs => step_issue_packed hp hs hwf⟩
  case refused => exact step_of_acceptIssued_error hs hprogram (by simp [acceptIssued, hp])

end Sys2Proof.Machine
end

section
/-! SUPPORT. What every operation keeps of a memory block (10_state.md R31, R37, 43_memory_block.md R172, R173, R179 to R184):
the two broadcasts line by line, a broadcast done twice, the words stored, and the flat form. -/

namespace Sys2Proof.Machine

/-! ## Register cells -/

/-- R163: a rising-edge bistable fires on a rise. -/
theorem fires_risingEdge (old level : Bit) : fires old level .risingEdge = (level && !old) := by
  cases old <;> cases level <;> rfl

/-- Settles O20: without the write-enable the clock is ignored; with it the cell's clock operation is the latch's. -/
theorem registerCellIsAGatedClockedLatch : Obligations.RegisterCellIsAGatedClockedLatch := by
  intro c level
  split_ifs with hwe
  · simp [RegisterCell.setClock_eq, ClockedSetResetLatch.setClock_eq, RegisterCell.bistable, fires_risingEdge, hwe]
  · rw [RegisterCell.setClock_of_not_we (eq_false_of_ne_true hwe)]

namespace MemoryBlock

section
variable {b b' : MemoryBlock} {i : Nat} {c c' : RegisterCell}

/-! ## The invariants, line by line -/

theorem gated_iff : b.Gated ↔ ∀ (i : Nat) (c : RegisterCell), b.lines[i]? = some c →
    c.cs = (decide (b.sel = some i) && b.cs) ∧ c.we = (decide (b.sel = some i) && b.we) := by
  constructor
  case mp =>
    rintro h i c hc
    obtain ⟨hi, rfl⟩ := List.getElem?_eq_some_iff.mp hc
    exact h i hi
  case mpr => exact fun h i hi => h i _ (List.getElem?_eq_getElem hi)

theorem clockTracked_iff : b.ClockTracked ↔ ∀ (i : Nat) (c : RegisterCell), b.lines[i]? = some c →
    b.sel = some i → b.we = true → c.clock = b.clk := by
  constructor
  case mp =>
    rintro h i c hc
    obtain ⟨hi, rfl⟩ := List.getElem?_eq_some_iff.mp hc
    exact h i hi
  case mpr => exact fun h i hi => h i _ (List.getElem?_eq_getElem hi)

/-- R172: every line after a control broadcast was a line before it. -/
theorem exists_line_of_broadcastControl (h : b.broadcastControl.lines[i]? = some c') :
    ∃ c, b.lines[i]? = some c ∧ c' = lineAfterControl (decide (b.sel = some i)) b.cs b.we b.clk c := by
  cases hc : b.lines[i]? with
  | none => simp [broadcastControl_getElem?, hc] at h
  | some c => exact ⟨c, rfl, Option.some.inj (h.symm.trans (broadcastControl_line hc))⟩

/-- R173: every line after a data broadcast was a line before it. -/
theorem exists_line_of_broadcastData (h : b.broadcastData.lines[i]? = some c') :
    ∃ c, b.lines[i]? = some c ∧ c' = { c with queued := if b.sel = some i then b.feed else 0 } := by
  simpa [broadcastData_getElem?, eq_comm] using h

/-! ### What a line is after a control broadcast -/

section
variable {selected cs we clk : Bit}

/-- R163, R172: the flags reach the selected line alone; it sees the clock level only write-enabled, and stores on a rise. -/
theorem lineAfterControl_eq :
    lineAfterControl selected cs we clk c =
      { clock := if selected && we then clk else c.clock
        queued := c.queued
        cs := selected && cs
        we := selected && we
        data := if selected && we && clk && !c.clock then c.queued else c.data } := by
  unfold lineAfterControl
  split_ifs <;> simp_all

/-- R183: a line that is gated by the block's flags and tracks its clock is left as it is. -/
theorem lineAfterControl_eq_self (hcs : c.cs = (selected && cs)) (hwe : c.we = (selected && we))
    (hclock : selected = true → we = true → c.clock = clk) : lineAfterControl selected cs we clk c = c := by
  rw [lineAfterControl_eq, ← hcs, ← hwe]
  obtain ⟨clock, queued, lineCs, lineWe, data⟩ := c
  cases lineWe with
  | false => rfl
  | true =>
    obtain ⟨hsel, hwe⟩ := Bool.and_eq_true_iff.mp hwe.symm
    obtain rfl : clock = clk := hclock hsel hwe
    simp

end

/-- R37: a control broadcast gates every line, whatever the flags were. -/
theorem broadcastControl_gated (b : MemoryBlock) : b.broadcastControl.Gated := by
  rw [gated_iff]
  intro i c' hc'
  obtain ⟨c, -, rfl⟩ := exists_line_of_broadcastControl hc'
  simp [lineAfterControl_eq]

/-- R184: a control broadcast gives a selected, write-enabled line the block's clock level. -/
theorem broadcastControl_clockTracked (b : MemoryBlock) : b.broadcastControl.ClockTracked := by
  rw [clockTracked_iff]
  intro i c' hc' hsel hwe
  obtain ⟨c, -, rfl⟩ := exists_line_of_broadcastControl hc'
  simp_all [lineAfterControl_eq]

/-- R178: a data broadcast leaves the gating as it is. -/
theorem broadcastData_gated (h : b.Gated) : b.broadcastData.Gated := by
  rw [gated_iff] at h ⊢
  intro i c' hc'
  obtain ⟨c, hc, rfl⟩ := exists_line_of_broadcastData hc'
  simpa using h i c hc

theorem broadcastData_clockTracked (h : b.ClockTracked) : b.broadcastData.ClockTracked := by
  rw [clockTracked_iff] at h ⊢
  intro i c' hc'
  obtain ⟨c, hc, rfl⟩ := exists_line_of_broadcastData hc'
  simpa using h i c hc

end

/-! ### Reads -/

section
variable {b b' : MemoryBlock} {w : Word}

/-- R65, R179: a read leaves everything but the routers. -/
theorem exists_routers_of_readWord (h : b.readWord = .ok (w, b')) :
    ∃ d₁ d₂ m, b' = { b with controlDemux := d₁, writeDemux := d₂, readMux := m } := by
  have hhide := readWord_hideRouters h
  obtain ⟨_, _, _, _, _, _, _, d₁, d₂, m⟩ := b'
  refine ⟨d₁, d₂, m, ?_⟩
  simp_all [hideRouters]

theorem readWord_lines (h : b.readWord = .ok (w, b')) : b'.lines = b.lines := by
  obtain ⟨_, _, _, rfl⟩ := exists_routers_of_readWord h
  rfl

theorem readWord_gated (hb : b.Gated) (h : b.readWord = .ok (w, b')) : b'.Gated := by
  obtain ⟨_, _, _, rfl⟩ := exists_routers_of_readWord h
  exact hb

theorem readWord_clockTracked (hb : b.ClockTracked) (h : b.readWord = .ok (w, b')) : b'.ClockTracked := by
  obtain ⟨_, _, _, rfl⟩ := exists_routers_of_readWord h
  exact hb

end

/-! ## A control broadcast done twice -/

/-- R172: the routers point at the selected line once the control word has been broadcast. -/
theorem broadcastControl_pointRouters (b : MemoryBlock) : b.broadcastControl.pointRouters = b.broadcastControl := by
  rw [pointRouters, broadcastControl_sel]
  cases h : b.sel <;> simp [broadcastControl, pointRouters, h, Demultiplexer.setInputWord]

theorem broadcastControl_controlDemux_input (b : MemoryBlock) :
    b.broadcastControl.controlDemux.input = pack b.cs b.we b.clk := rfl

/-- R183: a control broadcast changes nothing where the lines are gated and track the clock and the control routers hold their
copies. -/
theorem broadcastControl_eq_self {b : MemoryBlock} (hgated : b.Gated) (htracked : b.ClockTracked)
    (hpoint : b.pointRouters = b) (hinput : b.controlDemux.input = pack b.cs b.we b.clk) : b.broadcastControl = b := by
  have hlines : b.broadcastControl.lines = b.lines := by
    refine List.ext_getElem? fun i => ?_
    cases hc : b.lines[i]? with
    | none => simp [broadcastControl_getElem?, hc]
    | some c =>
      obtain ⟨hcs, hwe⟩ := gated_iff.mp hgated i c hc
      have hclock := clockTracked_iff.mp htracked i c hc
      rw [broadcastControl_line hc, lineAfterControl_eq_self hcs hwe]
      exact fun hsel => hclock (of_decide_eq_true hsel)
  have hdemux : b.controlDemux.setInputWord (pack b.cs b.we b.clk) = b.controlDemux := by
    rw [← hinput]
    rfl
  change { b.pointRouters with
    controlDemux := b.pointRouters.controlDemux.setInputWord (pack b.cs b.we b.clk)
    lines := b.broadcastControl.lines } = b
  rw [hlines, hpoint, hdemux]

/-- R130: a second broadcast of the same control word changes nothing. -/
theorem broadcastControl_broadcastControl (b : MemoryBlock) : b.broadcastControl.broadcastControl = b.broadcastControl := by
  refine broadcastControl_eq_self (broadcastControl_gated b) (broadcastControl_clockTracked b)
    (broadcastControl_pointRouters b) ?_
  rw [broadcastControl_controlDemux_input, broadcastControl_cs, broadcastControl_we, broadcastControl_clk]

end MemoryBlock

/-- Settles O27: each of the four setters is the control broadcast of the block itself. -/
theorem repeatedBlockSetterChangesNothing : Obligations.RepeatedBlockSetterChangesNothing := by
  intro s hgated htracked hcopy
  have hself : s.blk.broadcastControl = s.blk :=
    MemoryBlock.broadcastControl_eq_self hgated htracked (MemoryBlock.pointRouters_eq_self hcopy) hcopy.1
  have hnext : Host.Outcome.next (s.putBlk s.blk.broadcastControl) = (.next s : Result State) := by rw [hself]; rfl
  exact ⟨hself, hnext, hnext, hnext, hnext⟩

end Sys2Proof.Machine
end

section
/-! SUPPORT. The words of a memory block (43_memory_block.md R178 to R182): what a broadcast stores, the write sequence and its read
back, and the flat form. -/

namespace Sys2Proof.Machine

namespace MemoryBlock

/-! ## The fields a setter writes and keeps (R174 to R178) -/

section
variable (b : MemoryBlock) (l : Bit) (a : Nat) (w : Word)

@[simp] theorem setChipSelect_cs : (b.setChipSelect l).cs = l := by simp [setChipSelect]
@[simp] theorem setChipSelect_we : (b.setChipSelect l).we = b.we := by simp [setChipSelect]
@[simp] theorem setChipSelect_clk : (b.setChipSelect l).clk = b.clk := by simp [setChipSelect]
@[simp] theorem setChipSelect_addr : (b.setChipSelect l).addr = b.addr := by simp [setChipSelect]
@[simp] theorem setChipSelect_feed : (b.setChipSelect l).feed = b.feed := by simp [setChipSelect]
@[simp] theorem setWriteEnable_cs : (b.setWriteEnable l).cs = b.cs := by simp [setWriteEnable]
@[simp] theorem setWriteEnable_we : (b.setWriteEnable l).we = l := by simp [setWriteEnable]
@[simp] theorem setWriteEnable_clk : (b.setWriteEnable l).clk = b.clk := by simp [setWriteEnable]
@[simp] theorem setWriteEnable_addr : (b.setWriteEnable l).addr = b.addr := by simp [setWriteEnable]
@[simp] theorem setWriteEnable_feed : (b.setWriteEnable l).feed = b.feed := by simp [setWriteEnable]
@[simp] theorem setClock_cs : (b.setClock l).cs = b.cs := by simp [setClock]
@[simp] theorem setClock_we : (b.setClock l).we = b.we := by simp [setClock]
@[simp] theorem setClock_clk : (b.setClock l).clk = l := by simp [setClock]
@[simp] theorem setClock_addr : (b.setClock l).addr = b.addr := by simp [setClock]
@[simp] theorem setClock_feed : (b.setClock l).feed = b.feed := by simp [setClock]
@[simp] theorem setAddress_cs : (b.setAddress a).cs = b.cs := by simp [setAddress]
@[simp] theorem setAddress_we : (b.setAddress a).we = b.we := by simp [setAddress]
@[simp] theorem setAddress_clk : (b.setAddress a).clk = b.clk := by simp [setAddress]
@[simp] theorem setAddress_addr : (b.setAddress a).addr = a := by simp [setAddress]
@[simp] theorem setAddress_feed : (b.setAddress a).feed = b.feed := by simp [setAddress]
@[simp] theorem setFeed_cs : (b.setFeed w).cs = b.cs := by simp [setFeed]
@[simp] theorem setFeed_we : (b.setFeed w).we = b.we := by simp [setFeed]
@[simp] theorem setFeed_clk : (b.setFeed w).clk = b.clk := by simp [setFeed]
@[simp] theorem setFeed_addr : (b.setFeed w).addr = b.addr := by simp [setFeed]
@[simp] theorem setFeed_feed : (b.setFeed w).feed = w := by simp [setFeed]

end

/-! ## The words stored -/

section
variable {b b' : MemoryBlock} {i j a : Nat} {c c' : RegisterCell} {w : Word}

/-- R36: a line is selected by its own address. -/
theorem sel_eq_some_iff_of_line (hc : b.lines[i]? = some c) : b.sel = some i ↔ b.addr = b.base + i :=
  sel_eq_some_iff.trans (and_iff_left (List.getElem?_eq_some_iff.mp hc).1)

/-- R172: each line of a block after its control broadcast, by the line's address. -/
theorem broadcastControl_line_at (hc : b.lines[i]? = some c) :
    b.broadcastControl.lines[i]? = some (lineAfterControl (decide (b.addr = b.base + i)) b.cs b.we b.clk c) := by
  rw [broadcastControl_line hc, decide_eq_decide.mpr (sel_eq_some_iff_of_line hc)]

/-- R173: each line of a block after its data broadcast, by the line's address. -/
theorem broadcastData_line_at (hc : b.lines[i]? = some c) :
    b.broadcastData.lines[i]? = some { c with queued := if b.addr = b.base + i then b.feed else 0 } := by
  rw [broadcastData_getElem?, hc, Option.map_some, if_congr (sel_eq_some_iff_of_line hc) rfl rfl]

/-- R181: a control broadcast changes the data of the selected line alone, write-enabled and clocked high. -/
theorem broadcastControl_data_ne (hc : b.lines[j]? = some c) (hc' : b.broadcastControl.lines[j]? = some c')
    (hne : c'.data ≠ c.data) : b.sel = some j ∧ b.we = true ∧ b.clk = true ∧ c'.data = c.queued := by
  obtain rfl : c' = _ := Option.some.inj (hc'.symm.trans (broadcastControl_line hc))
  rw [lineAfterControl_eq] at hne ⊢
  dsimp only at hne ⊢
  split_ifs at hne with hstore
  · simp only [Bool.and_eq_true, decide_eq_true_eq] at hstore
    obtain ⟨⟨⟨hsel, hwe⟩, hclk⟩, hrise⟩ := hstore
    exact ⟨hsel, hwe, hclk, by simp [hsel, hwe, hclk, hrise]⟩
  · exact absurd rfl hne

/-- R172: a control broadcast changes at most what it makes of the selected line. -/
theorem broadcastControl_map_of_sel {α : Type} {f : RegisterCell → α} (hsel : b.sel = some i) (hc : b.lines[i]? = some c)
    (hf : ∀ x, f (lineAfterControl false b.cs b.we b.clk x) = f x) :
    b.broadcastControl.lines.map f = (b.lines.map f).set i (f (lineAfterControl true b.cs b.we b.clk c)) := by
  refine List.ext_getElem? fun j => ?_
  rw [List.getElem?_map]
  by_cases hij : i = j
  · subst hij
    rw [broadcastControl_line hc, decide_eq_true hsel, List.getElem?_set_self (by simpa using sel_lt hsel), Option.map_some]
  · rw [List.getElem?_set_ne hij, List.getElem?_map]
    have hother : b.sel ≠ some j := by simpa [hsel] using hij
    cases hx : b.lines[j]? with
    | none => simp [broadcastControl_getElem?, hx]
    | some x => rw [broadcastControl_line hx, decide_eq_false hother, Option.map_some, hf, Option.map_some]

theorem broadcastControl_map_of_sel_none {α : Type} {f : RegisterCell → α} (hsel : b.sel = none)
    (hf : ∀ x, f (lineAfterControl false b.cs b.we b.clk x) = f x) : b.broadcastControl.lines.map f = b.lines.map f := by
  refine List.ext_getElem? fun j => ?_
  cases hx : b.lines[j]? with
  | none => simp [broadcastControl_getElem?, hx]
  | some x => simp [broadcastControl_line hx, hsel, hx, hf]

end

/-! ## The word at an address -/

section
variable {b b' : MemoryBlock} {a : Nat} {w : Word}

/-- R60: the word at an address of the block's range is found among the data words of the lines. -/
theorem dataAt_base_add (b : MemoryBlock) (i : Nat) : b.dataAt (b.base + i) = (b.lines.map RegisterCell.data)[i]? := by
  rw [List.getElem?_map]
  rcases lt_or_ge i b.lines.length with hi | hi
  · have hline : localLine b.base b.n (b.base + i) = some i := localLine_eq_some.mpr (by rw [n]; omega)
    rw [dataAt, hline]
  · rw [dataAt_eq_none (by rw [n]; omega), List.getElem?_eq_none hi, Option.map_none]

/-- R60: where every line's word changes by its address alone, so does the word at an address. -/
theorem dataAt_eq_map {g : Nat → Word → Word} (hbase : b'.base = b.base) (hn : b'.n = b.n)
    (h : ∀ (i : Nat) (c : RegisterCell), b.lines[i]? = some c → ∃ c', b'.lines[i]? = some c' ∧ c'.data = g (b.base + i) c.data) :
    b'.dataAt a = (b.dataAt a).map (g a) := by
  rw [dataAt, dataAt, hbase, hn]
  cases hi : localLine b.base b.n a with
  | none => rfl
  | some i =>
    obtain ⟨hlo, hhi, rfl⟩ := localLine_eq_some.mp hi
    have hc := List.getElem?_eq_getElem (l := b.lines) (Nat.sub_lt_left_of_lt_add hlo hhi)
    obtain ⟨c', hc', hdata⟩ := h _ _ hc
    simp only [hc, hc', Option.map_some, hdata, Nat.add_sub_of_le hlo]

theorem dataAt_eq_of_lines (hbase : b'.base = b.base) (hn : b'.n = b.n)
    (h : ∀ (i : Nat) (c : RegisterCell), b.lines[i]? = some c → ∃ c', b'.lines[i]? = some c' ∧ c'.data = c.data) :
    b'.dataAt a = b.dataAt a := by
  rw [dataAt_eq_map (g := fun _ x => x) hbase hn h, Option.map_id']

/-- R181: a control broadcast with the clock low stores nothing. -/
theorem dataAt_broadcastControl_of_low (hlow : b.clk = false) : b.broadcastControl.dataAt a = b.dataAt a := by
  refine dataAt_eq_of_lines (broadcastControl_base b) (broadcastControl_n b) fun i c hc => ⟨_, broadcastControl_line hc, ?_⟩
  simp [lineAfterControl_eq, hlow]

/-- R178: a data broadcast stores nothing. -/
theorem dataAt_setFeed : (b.setFeed w).dataAt a = b.dataAt a := by
  refine dataAt_eq_of_lines (setFeed_base w b) (setFeed_n w b) fun i c hc => ?_
  rw [setFeed, broadcastData_getElem?, hc]
  exact ⟨_, rfl, rfl⟩

/-! ## The write sequence -/

theorem dataAt_setChipSelect_of_low (l : Bit) (hlow : b.clk = false) : (b.setChipSelect l).dataAt a = b.dataAt a :=
  dataAt_broadcastControl_of_low (b := { b with cs := l }) hlow

theorem dataAt_setWriteEnable_of_low (l : Bit) (hlow : b.clk = false) : (b.setWriteEnable l).dataAt a = b.dataAt a :=
  dataAt_broadcastControl_of_low (b := { b with we := l }) hlow

theorem dataAt_setAddress_of_low (x : Nat) (hlow : b.clk = false) : (b.setAddress x).dataAt a = b.dataAt a :=
  dataAt_broadcastControl_of_low (b := { b with addr := x }) hlow

theorem dataAt_setClock_false : (b.setClock false).dataAt a = b.dataAt a :=
  dataAt_broadcastControl_of_low (b := { b with clk := false }) rfl

/-- R176, R184: where the selected line tracks the low clock, a rise stores its queued word at the address, write-enabled. -/
theorem dataAt_setClock_true (hlow : b.clk = false) (htracked : b.ClockTracked)
    (hqueued : ∀ (i : Nat) (c : RegisterCell), b.lines[i]? = some c → b.sel = some i → c.queued = w) :
    (b.setClock true).dataAt a = (b.dataAt a).map fun old => if a = b.addr ∧ b.we = true then w else old := by
  refine dataAt_eq_map (g := fun x old => if x = b.addr ∧ b.we = true then w else old) (setClock_base true b)
    (setClock_n true b) fun i c hc => ⟨_, broadcastControl_line_at (b := { b with clk := true }) hc, ?_⟩
  rw [lineAfterControl_eq]
  by_cases haddr : b.addr = b.base + i
  · have hsel : b.sel = some i := (sel_eq_some_iff_of_line hc).mpr haddr
    cases hwe : b.we with
    | false => simp
    | true =>
      have hclock : c.clock = false := hlow ▸ clockTracked_iff.mp htracked i c hc hsel hwe
      simp [haddr, hclock, hqueued i c hc hsel]
  · simp [haddr, Ne.symm haddr]

/-- R77, R214: an address, a feed and a rise of the low clock store the word at the address, write-enabled. -/
theorem dataAt_setAddress_setFeed_setClock (x : Nat) (hlow : b.clk = false) :
    (((b.setAddress x).setFeed w).setClock true).dataAt a =
      (b.dataAt a).map fun old => if a = x ∧ b.we = true then w else old := by
  have htracked : ((b.setAddress x).setFeed w).ClockTracked :=
    broadcastData_clockTracked (b := { b.setAddress x with feed := w }) (broadcastControl_clockTracked { b with addr := x })
  rw [dataAt_setClock_true (w := w) (by simpa using hlow) htracked ?queued, dataAt_setFeed, dataAt_setAddress_of_low x hlow]
  case queued =>
    intro i c hc hsel
    obtain ⟨c, -, rfl⟩ := exists_line_of_broadcastData hc
    rw [setFeed, broadcastData_sel] at hsel
    exact if_pos hsel
  simp

end

/-! ## Stores -/

/-- R181: what a control broadcast may do to the words of a block. -/
theorem broadcastControl_stores_selected (b : MemoryBlock) : b.broadcastControl.lines.length = b.lines.length ∧
    ∀ (j : Nat) (c c' : RegisterCell), b.lines[j]? = some c → b.broadcastControl.lines[j]? = some c' → c'.data ≠ c.data →
      b.broadcastControl.sel = some j ∧ b.broadcastControl.we = true ∧ b.broadcastControl.clk = true ∧ c'.data = c.queued := by
  rw [broadcastControl_sel, broadcastControl_we, broadcastControl_clk]
  exact ⟨broadcastControl_n b, fun _ _ _ => broadcastControl_data_ne⟩

/-! ## The round trip -/

/-- R182: the block after the eight setters of the round trip. -/
def afterRoundTrip (a : Nat) (w : Word) (b : MemoryBlock) : MemoryBlock :=
  (((((((b.setWriteEnable true).setChipSelect false).setAddress a).setFeed w).setClock true).setClock false).setChipSelect
    true).setWriteEnable false

section
variable {b b' : MemoryBlock} {a : Nat} {w : Word}

/-- R182: the words after the setters of the round trip; its last control broadcasts come after the fall of the clock. -/
theorem dataAt_afterRoundTrip (hlow : b.clk = false) (a' : Nat) :
    (b.afterRoundTrip a w).dataAt a' = (b.dataAt a').map fun old => if a' = a then w else old := by
  have hstore := dataAt_setAddress_setFeed_setClock (a := a') (w := w) (b := (b.setWriteEnable true).setChipSelect false) a
    (by simpa using hlow)
  rw [afterRoundTrip, dataAt_setWriteEnable_of_low _ (by simp), dataAt_setChipSelect_of_low _ (by simp),
    dataAt_setClock_false, hstore, dataAt_setChipSelect_of_low _ (by simpa using hlow),
    dataAt_setWriteEnable_of_low _ hlow]
  simp

@[simp] theorem afterRoundTrip_base : (b.afterRoundTrip a w).base = b.base := by simp [afterRoundTrip]
@[simp] theorem afterRoundTrip_addr : (b.afterRoundTrip a w).addr = a := by simp [afterRoundTrip]
@[simp] theorem afterRoundTrip_cs : (b.afterRoundTrip a w).cs = true := by simp [afterRoundTrip]

theorem afterRoundTrip_gated (b : MemoryBlock) : (b.afterRoundTrip a w).Gated := broadcastControl_gated _

/-- R60: the words of a block, one line stored, from the words at the addresses. -/
theorem map_data_eq_set {i : Nat} (hbase : b'.base = b.base)
    (h : ∀ a', b'.dataAt a' = (b.dataAt a').map fun old => if a' = b.base + i then w else old) :
    b'.lines.map RegisterCell.data = (b.lines.map RegisterCell.data).set i w := by
  refine List.ext_getElem? fun j => ?_
  rw [← dataAt_base_add, hbase, h, dataAt_base_add, List.getElem?_set]
  by_cases hij : i = j
  · subst hij
    cases hi : b.lines[i]? with
    | none => simp_all
    | some c => simp [(List.getElem?_eq_some_iff.mp hi).1]
  · simp [hij, Ne.symm hij, Function.comp_def]

end

end MemoryBlock

/-- Settles O24: no setter but a control setter changes data, by `broadcastControl_stores_selected`, and a read none. -/
theorem blockDataChangesOnlyAtTheSelectedLine : Obligations.BlockDataChangesOnlyAtTheSelectedLine := by
  intro i s t hkind h
  have hcontrol : ∀ b : MemoryBlock, b.lines = s.blk.lines → t.blk = b.broadcastControl → i ≠ .blkReadWord →
      t.blk.lines.length = s.blk.lines.length ∧ ∀ (j : Nat) (c c' : RegisterCell), s.blk.lines[j]? = some c →
        t.blk.lines[j]? = some c' → c'.data ≠ c.data →
        i ≠ .blkReadWord ∧ t.blk.sel = some j ∧ t.blk.we = true ∧ t.blk.clk = true ∧ c'.data = c.queued := by
    intro b hlines ht hi
    rw [← hlines, ht]
    obtain ⟨hlength, hstores⟩ := b.broadcastControl_stores_selected
    exact ⟨hlength, fun j c c' hc hc' hne => ⟨hi, hstores j c c' hc hc' hne⟩⟩
  cases i with
  | blkSetChipSelect l => cases h; exact hcontrol { s.blk with cs := l } rfl rfl nofun
  | blkSetWriteEnable l => cases h; exact hcontrol { s.blk with we := l } rfl rfl nofun
  | blkSetClock l => cases h; exact hcontrol { s.blk with clk := l } rfl rfl nofun
  | blkSetAddress a => cases h; exact hcontrol { s.blk with addr := a } rfl rfl nofun
  | blkSetFeed w =>
    cases h
    refine ⟨MemoryBlock.setFeed_n w s.blk, fun j c c' hc hc' hne => absurd ?_ hne⟩
    obtain ⟨x, hx, rfl⟩ := MemoryBlock.exists_line_of_broadcastData hc'
    obtain rfl : x = c := Option.some.inj (hx.symm.trans hc)
    rfl
  | blkReadWord =>
    obtain ⟨⟨w, b⟩, hread, rfl⟩ := orRaise_eq_next h
    obtain ⟨_, _, _, rfl⟩ := MemoryBlock.exists_routers_of_readWord hread
    exact ⟨rfl, fun j c c' hc hc' hne => absurd (congrArg RegisterCell.data (Option.some.inj (hc'.symm.trans hc))) hne⟩
  | _ => cases hkind

/-! The block's setters on a state whose block is given. -/

section
variable (s : State) (b : MemoryBlock)

theorem exec_blkSetChipSelect_putBlk (l : Bit) :
    exec (.blkSetChipSelect l) (s.putBlk b) = .next (s.putBlk (b.setChipSelect l)) := rfl

theorem exec_blkSetWriteEnable_putBlk (l : Bit) :
    exec (.blkSetWriteEnable l) (s.putBlk b) = .next (s.putBlk (b.setWriteEnable l)) := rfl

theorem exec_blkSetClock_putBlk (l : Bit) :
    exec (.blkSetClock l) (s.putBlk b) = .next (s.putBlk (b.setClock l)) := rfl

theorem exec_blkSetAddress_putBlk (a : Nat) :
    exec (.blkSetAddress a) (s.putBlk b) = .next (s.putBlk (b.setAddress a)) := rfl

theorem exec_blkSetFeed_putBlk (w : Word) :
    exec (.blkSetFeed w) (s.putBlk b) = .next (s.putBlk (b.setFeed w)) := rfl

theorem exec_blkReadWord_putBlk :
    exec .blkReadWord (s.putBlk b) = orRaise b.readWord fun r => (s.putBlk r.2).returning (.word r.1) := rfl

/-- R182: the round trip is its eight setters and a read. -/
theorem execAll_blkRoundTrip (a : Nat) (w : Word) :
    execAll (blkRoundTrip a w) (s.putBlk b) = execAll [.blkReadWord] (s.putBlk (b.afterRoundTrip a w)) := by
  simp only [blkRoundTrip, execAll, exec_blkSetChipSelect_putBlk, exec_blkSetWriteEnable_putBlk, exec_blkSetClock_putBlk,
    exec_blkSetAddress_putBlk, exec_blkSetFeed_putBlk, MemoryBlock.afterRoundTrip]

end

/-- Settles O25: the setters leave the block chip-selected and gated with the word stored, so the read answers it. -/
theorem blockRoundTripReturnsTheWord : Obligations.BlockRoundTripReturnsTheWord := by
  intro s i w hlow hi
  have hdata := MemoryBlock.dataAt_afterRoundTrip (a := s.blk.base + i) (w := w) hlow
  have hword : (s.blk.afterRoundTrip (s.blk.base + i) w).dataAt (s.blk.base + i) = some w := by
    rw [hdata, MemoryBlock.dataAt_base_add, List.getElem?_eq_getElem (by simpa using hi), Option.map_some, if_pos rfl]
  obtain ⟨b, hread⟩ := MemoryBlock.readWord_of_dataAt s.blk.afterRoundTrip_gated
    (by rw [MemoryBlock.afterRoundTrip_addr, hword])
  rw [MemoryBlock.afterRoundTrip_cs, if_pos rfl] at hread
  refine ⟨b, ?answer, ?data⟩
  case answer =>
    change execAll _ (s.putBlk s.blk) = _
    rw [execAll_blkRoundTrip, execAll, exec_blkReadWord_putBlk, hread, orRaise_ok]
    rfl
  case data =>
    rw [MemoryBlock.readWord_lines hread]
    exact MemoryBlock.map_data_eq_set MemoryBlock.afterRoundTrip_base hdata

/-! ## The flat form -/

namespace MemoryBlock

theorem flat_sel (b : MemoryBlock) : b.flat.sel = b.sel := by
  simp [FlatBlock.sel, flat, sel, n]

/-- R180: the control broadcast, seen on the flat form, touches the selected line alone. -/
theorem flat_broadcastControl (b : MemoryBlock) : b.broadcastControl.flat = b.flat.touch := by
  rw [FlatBlock.touch, flat_sel]
  cases hsel : b.sel with
  | none =>
    have hmap := fun {α : Type} (f : RegisterCell → α) => broadcastControl_map_of_sel_none (f := f) hsel
    simp only [flat, hmap RegisterCell.data fun _ => rfl, hmap RegisterCell.queued fun _ => rfl,
      hmap RegisterCell.clock fun _ => rfl, broadcastControl_base, broadcastControl_cs, broadcastControl_we,
      broadcastControl_clk, broadcastControl_addr, broadcastControl_feed]
  | some i =>
    obtain ⟨c, hc⟩ : ∃ c, b.lines[i]? = some c := ⟨_, List.getElem?_eq_getElem (sel_lt hsel)⟩
    have hmap := fun {α : Type} (f : RegisterCell → α) => broadcastControl_map_of_sel (f := f) hsel hc
    have hself : ∀ {α : Type} (f : RegisterCell → α), (b.lines.map f).set i (f c) = b.lines.map f := fun f => by
      obtain ⟨hi, rfl⟩ := List.getElem?_eq_some_iff.mp hc
      rw [← List.map_set, List.set_getElem_self]
    simp only [flat, hmap RegisterCell.data fun _ => rfl, hmap RegisterCell.queued fun _ => rfl,
      hmap RegisterCell.clock fun _ => rfl, broadcastControl_base, broadcastControl_cs, broadcastControl_we,
      broadcastControl_clk, broadcastControl_addr, broadcastControl_feed, lineAfterControl_eq, Bool.true_and,
      List.getElem?_map, hc, Option.map_some, Option.getD_some, hself]
    cases hwe : b.we with
    | false => simp [hself]
    | true =>
      by_cases hclock : c.clock = b.clk
      · simp [← hclock, hself]
      · cases hclk : b.clk <;> simp_all

/-- R173: a data broadcast changes nothing of a line but its queued word. -/
theorem broadcastData_map {α : Type} {f : RegisterCell → α} (hf : ∀ c q, f { c with queued := q } = f c) (b : MemoryBlock) :
    b.broadcastData.lines.map f = b.lines.map f := by
  refine List.ext_getElem? fun i => ?_
  cases hc : b.lines[i]? <;> simp [broadcastData_getElem?, hc, hf]

theorem broadcastData_map_queued (b : MemoryBlock) : b.broadcastData.lines.map RegisterCell.queued =
    (b.lines.map RegisterCell.queued).mapIdx fun i _ => if b.sel = some i then b.feed else 0 := by
  refine List.ext_getElem? fun i => ?_
  cases hc : b.lines[i]? <;> simp [broadcastData_getElem?, hc]

/-- R180: the data broadcast, seen on the flat form. -/
theorem flat_setFeed (w : Word) (b : MemoryBlock) : (b.setFeed w).flat = b.flat.setFeed w := by
  simp only [setFeed, FlatBlock.setFeed, flat_sel]
  simp only [flat, broadcastData_map (f := RegisterCell.data) (fun _ _ => rfl),
    broadcastData_map (f := RegisterCell.clock) (fun _ _ => rfl), broadcastData_map_queued, broadcastData_base,
    broadcastData_cs, broadcastData_we, broadcastData_clk, broadcastData_addr, broadcastData_feed]
  rfl

/-- R180: a gated block reads what its flat form does. -/
theorem flat_readWord {b : MemoryBlock} (hg : b.Gated) : b.flat.readWord = b.readWord.map Prod.fst := by
  cases hcs : b.cs with
  | false => rw [readWord_of_not_cs hcs, FlatBlock.readWord, if_neg (by simp [flat, hcs])]; rfl
  | true =>
    rw [FlatBlock.readWord, flat_sel, if_pos (by simp [flat, hcs])]
    cases hsel : b.sel with
    | none => rw [readWord_of_sel_none hcs hsel]; rfl
    | some i =>
      have hc := List.getElem?_eq_getElem (sel_lt hsel)
      obtain ⟨hline, -⟩ := gated_iff.mp hg i _ hc
      rw [readWord_of_sel_some hcs hsel hc, RegisterCell.read, hline, hcs]
      simp [flat, hsel, hc, Except.map]

/-- R65: a read leaves the flat form as it is. -/
theorem flat_of_readWord {b b' : MemoryBlock} {w : Word} (h : b.readWord = .ok (w, b')) : b'.flat = b.flat := by
  obtain ⟨_, _, _, rfl⟩ := exists_routers_of_readWord h
  rfl

end MemoryBlock

/-- R180: one operation of a gated block and the same operation of its flat form: the same value or fault, and the same flat
form after it. -/
theorem exec_blk_flat {i : Instr} {s : State} (hkind : i.kind = .blk) (hg : s.blk.Gated) :
    (∃ b values, s.blk.flat.apply i = .ok (b.flat, values) ∧ b.Gated ∧
      exec i s = .next { s with blk := b, returned := s.returned ++ values }) ∨
    ∃ f, s.blk.flat.apply i = .error f ∧ exec i s = .fault f := by
  have hcontrol : ∀ (f : FlatBlock) (b : MemoryBlock), b.flat = f → s.blk.flat.apply i = .ok (f.touch, []) →
      exec i s = .next (s.putBlk b.broadcastControl) →
      ∃ b values, s.blk.flat.apply i = .ok (b.flat, values) ∧ b.Gated ∧
        exec i s = .next { s with blk := b, returned := s.returned ++ values } := by
    rintro _ b rfl happly hexec
    refine ⟨b.broadcastControl, [], ?_, b.broadcastControl_gated, ?_⟩
    · rw [happly, MemoryBlock.flat_broadcastControl]
    · rw [hexec, List.append_nil]
      rfl
  cases i with
  | blkSetChipSelect l => exact .inl (hcontrol _ { s.blk with cs := l } rfl rfl rfl)
  | blkSetWriteEnable l => exact .inl (hcontrol _ { s.blk with we := l } rfl rfl rfl)
  | blkSetClock l => exact .inl (hcontrol _ { s.blk with clk := l } rfl rfl rfl)
  | blkSetAddress a => exact .inl (hcontrol _ { s.blk with addr := a } rfl rfl rfl)
  | blkSetFeed w =>
    refine .inl ⟨s.blk.setFeed w, [], ?_, MemoryBlock.broadcastData_gated (b := { s.blk with feed := w }) hg, ?_⟩
    · rw [MemoryBlock.flat_setFeed]
      rfl
    · rw [List.append_nil]
      rfl
  | blkReadWord =>
    have hflat : s.blk.flat.apply .blkReadWord =
      match s.blk.flat.readWord with
      | .ok w => .ok (s.blk.flat, [.word w])
      | .error f => .error f := rfl
    rw [MemoryBlock.flat_readWord hg] at hflat
    rw [exec_blkReadWord]
    cases hread : s.blk.readWord with
    | error f =>
      rw [hread] at hflat
      exact .inr ⟨f, hflat, rfl⟩
    | ok r =>
      obtain ⟨w, b⟩ := r
      rw [hread] at hflat
      refine .inl ⟨b, [.word w], ?_, MemoryBlock.readWord_gated hg hread, rfl⟩
      rw [MemoryBlock.flat_of_readWord hread]
      exact hflat
  | _ => cases hkind

/-- R180: any sequence of a block's operations and the same sequence on the flat form. -/
theorem execAll_blk_flat {ops : List Instr} {s : State} (hops : ∀ i ∈ ops, i.kind = .blk) (hg : s.blk.Gated) :
    (∃ t values, FlatBlock.applyAll ops s.blk.flat = .ok (t.blk.flat, values) ∧ execAll ops s = .next t ∧
      t.returned = s.returned ++ values) ∨
    ∃ f, FlatBlock.applyAll ops s.blk.flat = .error f ∧ execAll ops s = .fault f := by
  induction ops generalizing s with
  | nil => exact .inl ⟨s, [], rfl, rfl, (List.append_nil _).symm⟩
  | cons i rest ih =>
    rw [FlatBlock.applyAll]
    obtain ⟨hi, hrest⟩ := List.forall_mem_cons.mp hops
    obtain ⟨b, values, happly, hb, hexec⟩ | ⟨f, happly, hexec⟩ := exec_blk_flat hi hg
    · rw [happly, execAll_cons_of_next hexec]
      obtain ⟨t, values', happly', hexec', hreturned⟩ | ⟨f, happly', hexec'⟩ :=
        ih (s := { s with blk := b, returned := s.returned ++ values }) hrest hb
      · exact .inl ⟨t, values ++ values', by simp only [happly'], hexec', by rw [hreturned, List.append_assoc]⟩
      · exact .inr ⟨f, by simp only [happly'], hexec'⟩
    · exact .inr ⟨f, by rw [happly], execAll_cons_of_fault hexec⟩

/-- Settles O26: the two forms stay together operation by operation. -/
theorem blockEqualsItsFlatForm : Obligations.BlockEqualsItsFlatForm := by
  intro ops s hops hg
  obtain ⟨t, values, happly, hexec, hreturned⟩ | ⟨f, happly, hexec⟩ := execAll_blk_flat hops hg
  · rw [happly]
    exact ⟨t, hexec, rfl, hreturned⟩
  · rw [happly]
    exact hexec

end Sys2Proof.Machine
end

section
/-! SUPPORT. What a step can do to the machine (10_state.md R20, R74): the component it may replace, the operations through which a
memory block may pass, and a step's invariant from an operation's. -/

namespace Sys2Proof.Machine

/-! ## One component at a time -/

/-- Settles O43: each meaning replaces its own component or none. -/
theorem operationTouchesItsOwnComponentOnly : Obligations.OperationTouchesItsOwnComponentOnly := by
  intro i s t h
  cases i with
  | muxSetInputWord | muxSetSelector | dmxSetSelector | dmxRead | blkReadWord | drvReadWord | drvDetermineBlockIndex
  | ctlSetClock =>
    obtain ⟨_, -, rfl⟩ := orRaise_eq_next h
    simp [Instr.kind]
  | ctlSetChipSelect | ctlSetWriteEnable | ctlSetAddress | ctlSetFeed | ctlReadResponse =>
    obtain ⟨_, -, rfl⟩ := onRecord_eq_next h
    simp [Instr.kind]
  | _ =>
    cases h
    simp [Instr.kind]

section
variable {i : Instr} {s t : State}

theorem exec_srl_of_kind_ne (h : exec i s = .next t) (hk : i.kind ≠ .srl) : t.srl = s.srl := by
  obtain ⟨hsrl, -⟩ := operationTouchesItsOwnComponentOnly i s t h
  exact hsrl hk

theorem exec_dff_of_kind_ne (h : exec i s = .next t) (hk : i.kind ≠ .dff) : t.dff = s.dff := by
  obtain ⟨-, hdff, -⟩ := operationTouchesItsOwnComponentOnly i s t h
  exact hdff hk

theorem exec_mux_of_kind_ne (h : exec i s = .next t) (hk : i.kind ≠ .mux) : t.mux = s.mux := by
  obtain ⟨-, -, -, -, hmux, -⟩ := operationTouchesItsOwnComponentOnly i s t h
  exact hmux hk

theorem exec_dmx_of_kind_ne (h : exec i s = .next t) (hk : i.kind ≠ .dmx) : t.dmx = s.dmx := by
  obtain ⟨-, -, -, -, -, hdmx, -⟩ := operationTouchesItsOwnComponentOnly i s t h
  exact hdmx hk

theorem exec_cell_of_kind_ne (h : exec i s = .next t) (hk : i.kind ≠ .cell) : t.cell = s.cell := by
  obtain ⟨-, -, -, -, -, -, hcell, -⟩ := operationTouchesItsOwnComponentOnly i s t h
  exact hcell hk

theorem exec_blk_of_kind_ne (h : exec i s = .next t) (hk : i.kind ≠ .blk) : t.blk = s.blk := by
  obtain ⟨-, -, -, -, -, -, -, hblk, -⟩ := operationTouchesItsOwnComponentOnly i s t h
  exact hblk hk

theorem exec_drv_of_kind_ne (h : exec i s = .next t) (hk : i.kind ≠ .drv) : t.drv = s.drv := by
  obtain ⟨-, -, -, -, -, -, -, -, hdrv, -⟩ := operationTouchesItsOwnComponentOnly i s t h
  exact hdrv hk

theorem exec_widths (h : exec i s = .next t) : t.widths = s.widths := by
  obtain ⟨-, -, -, -, -, -, -, -, -, -, hwidths, -⟩ := operationTouchesItsOwnComponentOnly i s t h
  exact hwidths

/-! ## Steps -/

/-- R4: a step that goes on does nothing or runs a well-formed operation, which sees everything but the caller's list. -/
theorem exec_of_step (h : step s = .next t) : t = s ∨ ∃ i rest,
    i.WellFormed s.widths s.ctl.coreCount s.fixture = true ∧ exec i (s.putProgram rest) = .next t := by
  obtain ⟨-, ⟨-, rfl⟩ | ⟨x, rest, i, -, haccept, hi⟩⟩ := step_eq_next h
  · exact .inl rfl
  · obtain ⟨-, -, hwf⟩ := acceptIssued_eq_ok.mp haccept
    exact .inr ⟨i, rest, hwf, hi⟩

/-- R4: what every well-formed operation keeps, whatever is still to be issued, every step keeps. -/
theorem step_keeps {P : State → Prop} (hprogram : ∀ u p, P u → P (State.putProgram u p))
    (hexec : ∀ i u v, P u → i.WellFormed u.widths u.ctl.coreCount u.fixture = true → exec i u = .next v → P v)
    (hs : P s) (h : step s = .next t) : P t := by
  obtain rfl | ⟨i, rest, hwf, hi⟩ := exec_of_step h
  · exact hs
  · exact hexec i (s.putProgram rest) t (hprogram s rest hs) hwf hi

end

/-! ## The operations of a block -/

/-- R172, R173, R179: the blocks that block operations make of `b`, the addresses they are given in `A` and the words in `W`. -/
inductive MemoryBlock.Becomes (A W : Nat → Prop) (b : MemoryBlock) : MemoryBlock → Prop
  | refl : Becomes A W b b
  | control {b' : MemoryBlock} (cs we clk : Bit) (h : Becomes A W b b') :
      Becomes A W b (MemoryBlock.broadcastControl { b' with cs := cs, we := we, clk := clk })
  | address {b' : MemoryBlock} {a : Nat} (h : Becomes A W b b') (ha : A a) : Becomes A W b (b'.setAddress a)
  | feed {b' : MemoryBlock} {w : Word} (h : Becomes A W b b') (hw : W w) : Becomes A W b (b'.setFeed w)
  | read {b' b'' : MemoryBlock} {w : Word} (h : Becomes A W b b') (hr : b'.readWord = .ok (w, b'')) : Becomes A W b b''

namespace MemoryBlock

section
variable {A W : Nat → Prop} {b b' : MemoryBlock}

theorem Becomes.setChipSelect (h : b.Becomes A W b') (l : Bit) : b.Becomes A W (b'.setChipSelect l) :=
  h.control l b'.we b'.clk

theorem Becomes.setWriteEnable (h : b.Becomes A W b') (l : Bit) : b.Becomes A W (b'.setWriteEnable l) :=
  h.control b'.cs l b'.clk

theorem Becomes.setClock (h : b.Becomes A W b') (l : Bit) : b.Becomes A W (b'.setClock l) :=
  h.control b'.cs b'.we l

/-- R214: the five setters of a request, on one block. -/
def applyRequest (q : QueueRecord) (level : Bit) (b : MemoryBlock) : MemoryBlock :=
  ((((b.setChipSelect q.cs).setWriteEnable q.we).setAddress q.addr).setFeed q.feed).setClock level

theorem becomes_applyRequest {q : QueueRecord} (level : Bit) (haddr : A q.addr) (hfeed : W q.feed) :
    b.Becomes A W (b.applyRequest q level) :=
  ((((Becomes.refl.setChipSelect q.cs).setWriteEnable q.we).address haddr).feed hfeed).setClock level

/-! ### What every block operation keeps -/

/-- R10, R39: no block operation moves or resizes a block. -/
theorem Becomes.base_n (h : b.Becomes A W b') : b'.base = b.base ∧ b'.n = b.n := by
  induction h with
  | refl => exact ⟨rfl, rfl⟩
  | control cs we clk _ ih => exact ⟨(broadcastControl_base _).trans ih.1, (broadcastControl_n _).trans ih.2⟩
  | address _ _ ih => exact ⟨(setAddress_base _ _).trans ih.1, (setAddress_n _ _).trans ih.2⟩
  | feed _ _ ih => exact ⟨(setFeed_base _ _).trans ih.1, (setFeed_n _ _).trans ih.2⟩
  | read _ hr ih =>
    obtain ⟨hbase, hn⟩ := readWord_base_n hr
    exact ⟨hbase.trans ih.1, hn.trans ih.2⟩

/-- R37: every block operation keeps the lines gated. -/
theorem Becomes.gated (h : b.Becomes A W b') (hb : b.Gated) : b'.Gated := by
  induction h with
  | refl => exact hb
  | control | address => exact broadcastControl_gated _
  | feed _ _ ih => exact broadcastData_gated ih
  | read _ hr ih => exact readWord_gated ih hr

/-- R184: every block operation keeps the selected line's clock. -/
theorem Becomes.clockTracked (h : b.Becomes A W b') (hb : b.ClockTracked) : b'.ClockTracked := by
  induction h with
  | refl => exact hb
  | control | address => exact broadcastControl_clockTracked _
  | feed _ _ ih => exact broadcastData_clockTracked ih
  | read _ hr ih => exact readWord_clockTracked ih hr

end

end MemoryBlock

/-! ## The blocks of a driver -/

section
variable {R : MemoryBlock → MemoryBlock → Prop} {P : MemoryBlock → Prop} {l l' : List MemoryBlock}

/-- What the change of each block keeps, the change of all keeps. -/
theorem forall_mem_of_forall₂ (h : List.Forall₂ R l l') (hR : ∀ b b', R b b' → P b → P b') (hl : ∀ b ∈ l, P b) :
    ∀ b' ∈ l', P b' := by
  induction h with
  | nil => exact hl
  | cons hb _ ih =>
    obtain ⟨hhead, htail⟩ := List.forall_mem_cons.mp hl
    exact List.forall_mem_cons.mpr ⟨hR _ _ hb hhead, ih htail⟩

/-- What the change of each block leaves, the change of all leaves. -/
theorem map_eq_of_forall₂ {α : Type} {f : MemoryBlock → α} (h : List.Forall₂ R l l') (hR : ∀ b b', R b b' → f b' = f b) :
    l'.map f = l.map f := by
  induction h with
  | nil => rfl
  | cons hb _ ih => rw [List.map_cons, List.map_cons, hR _ _ hb, ih]

/-- One more change of one block, place by place. -/
theorem forall₂_set_right {k : Nat} {b b' : MemoryBlock} (h : List.Forall₂ R l l') (hb : l'[k]? = some b)
    (hR : ∀ x, R x b → R x b') : List.Forall₂ R l (l'.set k b') := by
  induction h generalizing k with
  | nil => simp at hb
  | @cons x y _ _ hxy hrest ih =>
    cases k with
    | zero =>
      obtain rfl : y = b := by simpa using hb
      exact .cons (hR x hxy) hrest
    | succ k => exact .cons hxy (ih (by simpa using hb))

theorem forall₂_becomes_refl {A W : Nat → Prop} (l : List MemoryBlock) : List.Forall₂ (MemoryBlock.Becomes A W) l l :=
  List.forall₂_same.mpr fun _ _ => .refl

end

namespace Driver

section
variable {d d' : Driver} {w : Word}

theorem applyRequest_blocks (q : QueueRecord) (level : Bit) (d : Driver) :
    (d.applyRequest q level).blocks = d.blocks.map (MemoryBlock.applyRequest q level) := by
  simp only [applyRequest, setChipSelect, setWriteEnable, setAddress, setFeed, setClock, fanOut, List.map_map]
  rfl

@[simp] theorem applyRequest_addr (q : QueueRecord) (level : Bit) (d : Driver) :
    (d.applyRequest q level).addr = q.addr := rfl

@[simp] theorem applyRequest_addressWidth (q : QueueRecord) (level : Bit) (d : Driver) :
    (d.applyRequest q level).addressWidth = d.addressWidth := rfl

/-- R196: a read that answers is the read of the owning block, which is one of the driver's. -/
theorem exists_block_of_readWord (h : d.readWord = .ok (w, d')) :
    ∃ k b b', owningBlock d.sizes d.addr = some k ∧ d.blocks[k]? = some b ∧ b.readWord = .ok (w, b') ∧
      d' = { d with blocks := d.blocks.set k b' } := by
  obtain ⟨k, b', hk, hread, rfl⟩ := readWord_eq_ok h
  obtain ⟨hlt, -⟩ := owningBlock_eq_some_iff.mp hk
  have hb := List.getElem?_eq_getElem (l := d.blocks) (by simpa [sizes] using hlt)
  rw [hb] at hread
  exact ⟨k, _, b', hk, hb, hread, rfl⟩

end

section
variable {A W : Nat → Prop} {d d' : Driver} {w : Word}

theorem becomes_fanOut {f : MemoryBlock → MemoryBlock} (d : Driver) (h : ∀ b : MemoryBlock, b.Becomes A W (f b)) :
    List.Forall₂ (MemoryBlock.Becomes A W) d.blocks (d.fanOut f).blocks :=
  d.forall₂_fanOut h

theorem becomes_readWord {blocks : List MemoryBlock} (hd : List.Forall₂ (MemoryBlock.Becomes A W) blocks d.blocks)
    (h : d.readWord = .ok (w, d')) : List.Forall₂ (MemoryBlock.Becomes A W) blocks d'.blocks := by
  obtain ⟨k, b, b', -, hb, hread, rfl⟩ := exists_block_of_readWord h
  exact forall₂_set_right hd hb fun _ hx => .read hx hread

theorem becomes_applyRequest {q : QueueRecord} (level : Bit) (haddr : A q.addr) (hfeed : W q.feed) (d : Driver) :
    List.Forall₂ (MemoryBlock.Becomes A W) d.blocks (d.applyRequest q level).blocks := by
  rw [applyRequest_blocks]
  exact d.becomes_fanOut fun _ => MemoryBlock.becomes_applyRequest level haddr hfeed

end

end Driver

/-! ## The blocks of the machine -/

/-- The address or word an operation gives the blocks lies in `A` or `W`. -/
def OperandsIn (A W : Nat → Prop) : Instr → Prop
  | .blkSetAddress a | .drvSetAddress a => A a
  | .blkSetFeed w | .drvSetFeed w => W w
  | _ => True

section
variable {A W : Nat → Prop} {i : Instr} {s t : State}

theorem exec_blk_becomes (h : exec i s = .next t) (hi : OperandsIn A W i) : s.blk.Becomes A W t.blk := by
  cases i with
  | blkSetChipSelect l => cases h; exact MemoryBlock.Becomes.refl.setChipSelect l
  | blkSetWriteEnable l => cases h; exact MemoryBlock.Becomes.refl.setWriteEnable l
  | blkSetClock l => cases h; exact MemoryBlock.Becomes.refl.setClock l
  | blkSetAddress a => cases h; exact .address .refl hi
  | blkSetFeed w => cases h; exact .feed .refl hi
  | blkReadWord =>
    obtain ⟨⟨w, b⟩, hread, rfl⟩ := orRaise_eq_next h
    exact .read .refl hread
  | _ =>
    rw [exec_blk_of_kind_ne h nofun]
    exact .refl

theorem exec_drv_becomes (h : exec i s = .next t) (hi : OperandsIn A W i) :
    List.Forall₂ (MemoryBlock.Becomes A W) s.drv.blocks t.drv.blocks := by
  cases i with
  | drvSetChipSelect l => cases h; exact s.drv.becomes_fanOut fun _ => MemoryBlock.Becomes.refl.setChipSelect l
  | drvSetWriteEnable l => cases h; exact s.drv.becomes_fanOut fun _ => MemoryBlock.Becomes.refl.setWriteEnable l
  | drvSetClock l => cases h; exact s.drv.becomes_fanOut fun _ => MemoryBlock.Becomes.refl.setClock l
  | drvSetAddress a => cases h; exact s.drv.becomes_fanOut fun _ => .address .refl hi
  | drvSetFeed w => cases h; exact s.drv.becomes_fanOut fun _ => .feed .refl hi
  | drvReadWord =>
    obtain ⟨⟨w, d⟩, hread, rfl⟩ := orRaise_eq_next h
    exact Driver.becomes_readWord (forall₂_becomes_refl _) hread
  | drvDetermineBlockIndex a =>
    obtain ⟨k, -, rfl⟩ := orRaise_eq_next h
    exact forall₂_becomes_refl _
  | drvAddressWidth => cases h; exact forall₂_becomes_refl _
  | _ =>
    rw [exec_drv_of_kind_ne h nofun]
    exact forall₂_becomes_refl _

/-- R214: a clock operation of the controller passes its blocks through the five setters of the focused request and a read. -/
theorem setClock_becomes {level : Bit} {k k' : Controller} (h : k.setClock level = .ok k') (haddr : A k.focused.addr)
    (hfeed : W k.focused.feed) : List.Forall₂ (MemoryBlock.Becomes A W) k.driver.blocks k'.driver.blocks := by
  obtain ⟨-, rfl⟩ | ⟨-, -, w, d', hread, rfl⟩ | ⟨-, -, rfl⟩ := Controller.setClock_eq_ok h
  · exact forall₂_becomes_refl _
  · exact Driver.becomes_readWord (k.driver.becomes_applyRequest true haddr hfeed) hread
  · exact k.driver.becomes_applyRequest false haddr hfeed

theorem exec_ctl_becomes (h : exec i s = .next t) (haddr : A s.ctl.focused.addr) (hfeed : W s.ctl.focused.feed) :
    List.Forall₂ (MemoryBlock.Becomes A W) s.ctl.driver.blocks t.ctl.driver.blocks := by
  cases i with
  | ctlSetClock level =>
    obtain ⟨k, hk, rfl⟩ := orRaise_eq_next h
    exact setClock_becomes hk haddr hfeed
  | ctlSetChipSelect | ctlSetWriteEnable | ctlSetAddress | ctlSetFeed | ctlReadResponse =>
    obtain ⟨_, -, rfl⟩ := onRecord_eq_next h
    exact forall₂_becomes_refl _
  | _ =>
    rw [exec_ctl_of_kind_ne h nofun]
    exact forall₂_becomes_refl _

/-- R172, R173, R179: every operation passes every block through block operations. -/
theorem exec_blocks_becomes (h : exec i s = .next t) (hi : OperandsIn A W i) (haddr : A s.ctl.focused.addr)
    (hfeed : W s.ctl.focused.feed) : List.Forall₂ (MemoryBlock.Becomes A W) s.blocks t.blocks :=
  .cons (exec_blk_becomes h hi) (List.rel_append (exec_drv_becomes h hi) (exec_ctl_becomes h haddr hfeed))

/-- Any address and any word. -/
abbrev AnyOperand (_ : Nat) : Prop := True

theorem operandsIn_any (i : Instr) : OperandsIn AnyOperand AnyOperand i := by
  cases i <;> trivial

/-- R172, R173, R179: every step passes every block, in its place, through block operations. -/
theorem step_becomes (h : step s = .next t) : s.blk.Becomes AnyOperand AnyOperand t.blk ∧
    List.Forall₂ (MemoryBlock.Becomes AnyOperand AnyOperand) s.drv.blocks t.drv.blocks ∧
    List.Forall₂ (MemoryBlock.Becomes AnyOperand AnyOperand) s.ctl.driver.blocks t.ctl.driver.blocks := by
  obtain rfl | ⟨i, rest, -, hi⟩ := exec_of_step h
  · exact ⟨.refl, forall₂_becomes_refl _, forall₂_becomes_refl _⟩
  · exact ⟨exec_blk_becomes (s := s.putProgram rest) hi (operandsIn_any i),
      exec_drv_becomes (s := s.putProgram rest) hi (operandsIn_any i),
      exec_ctl_becomes (s := s.putProgram rest) hi trivial trivial⟩

/-- A block invariant that every block operation keeps, every step keeps for every block. -/
theorem step_keeps_blocks {P : MemoryBlock → Prop}
    (hP : ∀ b b', b.Becomes AnyOperand AnyOperand b' → P b → P b') (hs : ∀ b ∈ s.blocks, P b)
    (h : step s = .next t) : ∀ b ∈ t.blocks, P b := by
  obtain ⟨hblk, hdrv, hctl⟩ := step_becomes h
  exact forall_mem_of_forall₂ (.cons hblk (List.rel_append hdrv hctl)) hP hs

end

/-- Settles O48: every block operation keeps the lines gated. -/
theorem stepKeepsLinesGated : Obligations.StepKeepsLinesGated :=
  fun _ _ hs h => step_keeps_blocks (fun _ _ => MemoryBlock.Becomes.gated) hs h

/-- Settles O49: every block operation keeps the selected line's clock. -/
theorem stepKeepsClocksTracked : Obligations.StepKeepsClocksTracked :=
  fun _ _ hs h => step_keeps_blocks (fun _ _ => MemoryBlock.Becomes.clockTracked) hs h

end Sys2Proof.Machine
end

section
/-! SUPPORT. What every step keeps (10_state.md R12, R25, R26, R31, R37 to R40, R184): the construction constants, the routers of
a block, the ranges of selectors and values, and the controller's blocks at its clock level. -/

namespace Sys2Proof.Machine

/-! ## Construction constants -/

/-- The construction constants of `s` and `t` are the same (R7 to R10, R39, R190). -/
structure State.SameConstants (s t : State) : Prop where
  widths : t.widths = s.widths
  fixture : t.fixture = s.fixture
  dff : t.dff.triggerMode = s.dff.triggerMode
  srff : t.srff.triggerMode = s.srff.triggerMode
  tff : t.tff.triggerMode = s.tff.triggerMode
  mux : t.mux.inputs.length = s.mux.inputs.length
  dmx : t.dmx.n = s.dmx.n
  drvWidth : t.drv.addressWidth = s.drv.addressWidth
  cores : t.ctl.queue.length = s.ctl.queue.length
  ctlWidth : t.ctl.driver.addressWidth = s.ctl.driver.addressWidth

section
variable {i : Instr} {s t : State}

theorem Driver.readWord_addressWidth {d d' : Driver} {w : Word} (h : d.readWord = .ok (w, d')) :
    d'.addressWidth = d.addressWidth := by
  obtain ⟨_, _, _, -, -, -, rfl⟩ := exists_block_of_readWord h
  rfl

theorem Driver.readWord_addr {d d' : Driver} {w : Word} (h : d.readWord = .ok (w, d')) : d'.addr = d.addr := by
  obtain ⟨_, _, _, -, -, -, rfl⟩ := exists_block_of_readWord h
  rfl

theorem Controller.setClock_constants {level : Bit} {k k' : Controller} (h : k.setClock level = .ok k') :
    k'.queue.length = k.queue.length ∧ k'.driver.addressWidth = k.driver.addressWidth := by
  obtain ⟨-, rfl⟩ | ⟨-, -, w, d', hread, rfl⟩ | ⟨-, -, rfl⟩ := setClock_eq_ok h
  · exact ⟨rfl, rfl⟩
  · exact ⟨List.length_set, (Driver.readWord_addressWidth hread).trans (Driver.applyRequest_addressWidth ..)⟩
  · exact ⟨rfl, rfl⟩

theorem Multiplexer.setInputWord_eq_ok {m m' : Multiplexer} {j : Nat} {w : Word} (h : m.setInputWord j w = .ok m') :
    j < m.n ∧ m' = { m with inputs := m.inputs.set j w } := by
  rcases lt_or_ge j m.n with hj | hj
  · exact ⟨hj, (Except.ok.inj ((setInputWord_of_lt hj).symm.trans h)).symm⟩
  · cases (setInputWord_of_le hj).symm.trans h

theorem Multiplexer.setSelector_eq_ok {m m' : Multiplexer} {v : Nat} (h : m.setSelector v = .ok m') :
    v < m.n ∧ m' = { m with selector := v } := by
  rcases lt_or_ge v m.n with hv | hv
  · exact ⟨hv, (Except.ok.inj ((setSelector_of_lt hv).symm.trans h)).symm⟩
  · cases (setSelector_of_le hv).symm.trans h

theorem Demultiplexer.setSelector_eq_ok {α : Type} {d d' : Demultiplexer α} {v : Nat} (h : d.setSelector v = .ok d') :
    v < d.n ∧ d' = { d with selector := v } := by
  rcases lt_or_ge v d.n with hv | hv
  · exact ⟨hv, (Except.ok.inj ((setSelector_of_lt hv).symm.trans h)).symm⟩
  · cases (setSelector_of_le hv).symm.trans h

/-- R7 to R10, R39: no operation changes a construction constant outside the blocks. -/
theorem exec_sameConstants (h : exec i s = .next t) : s.SameConstants t := by
  cases i with
  | dffSetClock | srffSetClock | tffSetClock =>
    cases h
    constructor <;> simp [ClockedSetResetLatch.setClock_eq, SRFlipFlop.setClock_eq, TFlipFlop.setClock_eq]
  | muxSetInputWord j w =>
    obtain ⟨m, hm, rfl⟩ := orRaise_eq_next h
    obtain ⟨-, rfl⟩ := Multiplexer.setInputWord_eq_ok hm
    constructor <;> simp
  | muxSetSelector a =>
    obtain ⟨m, hm, rfl⟩ := orRaise_eq_next h
    obtain ⟨-, rfl⟩ := Multiplexer.setSelector_eq_ok hm
    constructor <;> rfl
  | dmxSetSelector k =>
    obtain ⟨d, hd, rfl⟩ := orRaise_eq_next h
    obtain ⟨-, rfl⟩ := Demultiplexer.setSelector_eq_ok hd
    constructor <;> rfl
  | dmxRead | blkReadWord | drvDetermineBlockIndex =>
    obtain ⟨_, -, rfl⟩ := orRaise_eq_next h
    constructor <;> rfl
  | drvReadWord =>
    obtain ⟨⟨w, d⟩, hread, rfl⟩ := orRaise_eq_next h
    constructor
    case drvWidth => exact Driver.readWord_addressWidth hread
    all_goals rfl
  | ctlSetClock level =>
    obtain ⟨k, hk, rfl⟩ := orRaise_eq_next h
    obtain ⟨hqueue, hwidth⟩ := Controller.setClock_constants hk
    constructor
    case cores => exact hqueue
    case ctlWidth => exact hwidth
    all_goals rfl
  | ctlSetChipSelect | ctlSetWriteEnable | ctlSetAddress | ctlSetFeed | ctlReadResponse =>
    obtain ⟨_, -, rfl⟩ := onRecord_eq_next h
    constructor <;> simp [Controller.putRecord]
  | _ =>
    cases h
    constructor <;> rfl

end

/-- Settles O47: the constants inside the blocks by the operations of a block, the others by `SameConstants`. -/
theorem constructionConstantsNeverChange : Obligations.ConstructionConstantsNeverChange := by
  intro s t h
  obtain ⟨hblk, hdrv, hctl⟩ := step_becomes h
  obtain ⟨hblkBase, hblkN⟩ := hblk.base_n
  have hconstants : s.SameConstants t := by
    obtain rfl | ⟨i, rest, -, hi⟩ := exec_of_step h
    · constructor <;> rfl
    · obtain ⟨hwidths, hfixture, hdff, hsrff, htff, hmux, hdmx, hdrvWidth, hcores, hctlWidth⟩ := exec_sameConstants hi
      exact ⟨hwidths, hfixture, hdff, hsrff, htff, hmux, hdmx, hdrvWidth, hcores, hctlWidth⟩
  exact ⟨hconstants.widths, hconstants.fixture, hconstants.dff, hconstants.srff, hconstants.tff, hconstants.mux,
    hconstants.dmx, hblkBase, hblkN, map_eq_of_forall₂ hdrv fun _ _ hb => hb.base_n.1,
    map_eq_of_forall₂ hdrv fun _ _ hb => hb.base_n.2, hconstants.drvWidth, hconstants.cores,
    map_eq_of_forall₂ hctl fun _ _ hb => hb.base_n.1, map_eq_of_forall₂ hctl fun _ _ hb => hb.base_n.2,
    hconstants.ctlWidth⟩

/-! ## The routers of a block -/

theorem fits_zero (n : Nat) : fits n 0 := Nat.two_pow_pos n

namespace MemoryBlock

section
variable {A W : Nat → Prop} {b b' : MemoryBlock} {w : Word} {p : Widths}

/-! What pointing the routers makes of them (R31): the chip-selects follow the selected line, the words and sizes stay. -/

@[simp] theorem pointRouters_controlDemux_cs (b : MemoryBlock) : b.pointRouters.controlDemux.cs = b.sel.isSome := by
  unfold pointRouters
  cases h : b.sel <;> simp

@[simp] theorem pointRouters_writeDemux_cs (b : MemoryBlock) : b.pointRouters.writeDemux.cs = b.sel.isSome := by
  unfold pointRouters
  cases h : b.sel <;> simp

@[simp] theorem pointRouters_controlDemux_input (b : MemoryBlock) : b.pointRouters.controlDemux.input = b.controlDemux.input := by
  unfold pointRouters
  cases h : b.sel <;> simp

@[simp] theorem pointRouters_writeDemux_input (b : MemoryBlock) : b.pointRouters.writeDemux.input = b.writeDemux.input := by
  unfold pointRouters
  cases h : b.sel <;> simp

@[simp] theorem pointRouters_controlDemux_n (b : MemoryBlock) : b.pointRouters.controlDemux.n = b.controlDemux.n := by
  unfold pointRouters
  cases h : b.sel <;> simp

@[simp] theorem pointRouters_writeDemux_n (b : MemoryBlock) : b.pointRouters.writeDemux.n = b.writeDemux.n := by
  unfold pointRouters
  cases h : b.sel <;> simp

@[simp] theorem pointRouters_readMux_inputs (b : MemoryBlock) : b.pointRouters.readMux.inputs = b.readMux.inputs := by
  unfold pointRouters
  cases h : b.sel <;> simp

/-- R31: the three selectors follow the selected line, or stay where they were. -/
theorem pointRouters_selectors (b : MemoryBlock) :
    (∃ i, b.sel = some i ∧ b.pointRouters.controlDemux.selector = i ∧ b.pointRouters.writeDemux.selector = i ∧
      b.pointRouters.readMux.selector = i) ∨
    (b.sel = none ∧ b.pointRouters.controlDemux.selector = b.controlDemux.selector ∧
      b.pointRouters.writeDemux.selector = b.writeDemux.selector ∧
      b.pointRouters.readMux.selector = b.readMux.selector) := by
  unfold pointRouters
  cases h : b.sel <;> simp

@[simp] theorem pointRouters_sel (b : MemoryBlock) : b.pointRouters.sel = b.sel := by
  simp [sel]

/-- R31: the routers are copies once they are pointed and the two demultiplexers hold the block's words. -/
theorem pointRouters_routersCopy (hcontrol : b.controlDemux.input = pack b.cs b.we b.clk)
    (hwrite : b.writeDemux.input = b.feed) : b.pointRouters.RoutersCopy := by
  refine ⟨by simp [hcontrol], by simp [hwrite], by simp, by simp, fun i _ hsel => ?_⟩
  rw [pointRouters_sel] at hsel
  obtain ⟨j, hj, hselectors⟩ | ⟨hnone, -⟩ := b.pointRouters_selectors
  · obtain rfl : j = i := Option.some.inj (hj.symm.trans hsel)
    exact hselectors
  · rw [hnone] at hsel
    cases hsel

@[simp] theorem broadcastControl_writeDemux_input (b : MemoryBlock) :
    b.broadcastControl.writeDemux.input = b.writeDemux.input := pointRouters_writeDemux_input b

theorem broadcastControl_routersCopy (hwrite : b.writeDemux.input = b.feed) : b.broadcastControl.RoutersCopy := by
  rw [← broadcastControl_pointRouters]
  exact pointRouters_routersCopy (by simp [broadcastControl_controlDemux_input]) (by simpa using hwrite)

theorem broadcastData_pointRouters (b : MemoryBlock) : b.broadcastData.pointRouters = b.broadcastData := by
  rw [pointRouters, broadcastData_sel]
  cases h : b.sel <;> simp [broadcastData, pointRouters, h, Demultiplexer.setInputWord]

@[simp] theorem broadcastData_controlDemux_input (b : MemoryBlock) :
    b.broadcastData.controlDemux.input = b.controlDemux.input := pointRouters_controlDemux_input b

theorem broadcastData_writeDemux_input (b : MemoryBlock) : b.broadcastData.writeDemux.input = b.feed := rfl

theorem broadcastData_routersCopy (hcontrol : b.controlDemux.input = pack b.cs b.we b.clk) :
    b.broadcastData.RoutersCopy := by
  rw [← broadcastData_pointRouters]
  exact pointRouters_routersCopy (by simpa using hcontrol) (by simp [broadcastData_writeDemux_input])

/-- R31, R179: a read brings the routers to their copies. -/
theorem readWord_routersCopy (hcontrol : b.controlDemux.input = pack b.cs b.we b.clk) (hwrite : b.writeDemux.input = b.feed)
    (h : b.readWord = .ok (w, b')) : b'.RoutersCopy := by
  have hcopy := pointRouters_routersCopy hcontrol hwrite
  obtain ⟨-, -, rfl⟩ | ⟨-, i, hsel, -, rfl⟩ := readWord_eq_ok h
  · exact hcopy
  · obtain ⟨hcontrolInput, hwriteInput, hcontrolCs, hwriteCs, hselectors⟩ := hcopy
    refine ⟨hcontrolInput, hwriteInput, hcontrolCs, hwriteCs, fun j hj hselj => ?_⟩
    obtain ⟨hcontrolSel, hwriteSel, -⟩ := hselectors j hj hselj
    have hij : some i = some j := hsel.symm.trans ((pointRouters_sel b).symm.trans hselj)
    exact ⟨hcontrolSel, hwriteSel, Option.some.inj hij⟩

theorem RoutersCopy.routersFollow (h : b.RoutersCopy) : b.RoutersFollow := by
  obtain ⟨hcontrol, hwrite, hcontrolCs, hwriteCs, hselectors⟩ := h
  exact ⟨hcontrol, hwrite, fun h => hcontrolCs ▸ h, fun h => hwriteCs ▸ h, hselectors⟩

/-- R31: from demultiplexers that hold the block's words, every block operation makes copies of all. -/
theorem Becomes.eq_or_routersCopy (h : b.Becomes A W b') (hcontrol : b.controlDemux.input = pack b.cs b.we b.clk)
    (hwrite : b.writeDemux.input = b.feed) : b' = b ∨ b'.RoutersCopy := by
  have hwords : ∀ {x : MemoryBlock}, x = b ∨ x.RoutersCopy →
      x.controlDemux.input = pack x.cs x.we x.clk ∧ x.writeDemux.input = x.feed := by
    rintro x (rfl | ⟨hxControl, hxWrite, -⟩)
    · exact ⟨hcontrol, hwrite⟩
    · exact ⟨hxControl, hxWrite⟩
  induction h with
  | refl => exact .inl rfl
  | control cs we clk _ ih => exact .inr (broadcastControl_routersCopy (hwords ih).2)
  | address _ _ ih => exact .inr (broadcastControl_routersCopy (hwords ih).2)
  | feed _ _ ih => exact .inr (broadcastData_routersCopy (hwords ih).1)
  | read _ hr ih => exact .inr (readWord_routersCopy (hwords ih).1 (hwords ih).2 hr)

theorem Becomes.routersCopy (h : b.Becomes A W b') (hb : b.RoutersCopy) : b'.RoutersCopy := by
  obtain ⟨hcontrol, hwrite, -⟩ := id hb
  obtain rfl | hcopy := h.eq_or_routersCopy hcontrol hwrite
  · exact hb
  · exact hcopy

theorem Becomes.routersFollow (h : b.Becomes A W b') (hb : b.RoutersFollow) : b'.RoutersFollow := by
  obtain ⟨hcontrol, hwrite, -⟩ := id hb
  obtain rfl | hcopy := h.eq_or_routersCopy hcontrol hwrite
  · exact hb
  · exact RoutersCopy.routersFollow hcopy

/-! ### Sizes -/

/-- R25, R26: pointing the routers keeps their sizes and selects a line of the block. -/
theorem pointRouters_sized (hb : b.Sized) : b.pointRouters.Sized := by
  obtain ⟨hcontrolN, hwriteN, hreadN, hcontrol, hwrite, hread⟩ := hb
  have hselectors : b.pointRouters.controlDemux.selector < b.n ∧ b.pointRouters.writeDemux.selector < b.n ∧
      b.pointRouters.readMux.selector < b.n := by
    obtain ⟨i, hsel, hc, hw, hr⟩ | ⟨-, hc, hw, hr⟩ := b.pointRouters_selectors
    · have hi : i < b.n := sel_lt hsel
      exact ⟨hc ▸ hi, hw ▸ hi, hr ▸ hi⟩
    · rw [hc, hw, hr]
      exact ⟨hcontrol, hwrite, hread⟩
  rw [MemoryBlock.Sized, pointRouters_n]
  exact ⟨by simpa using hcontrolN, by simpa using hwriteN, by simpa [Multiplexer.n] using hreadN, hselectors⟩

theorem broadcastControl_sized (hb : b.Sized) : b.broadcastControl.Sized := by
  have hlength : b.broadcastControl.n = b.pointRouters.n := by rw [broadcastControl_n, pointRouters_n]
  obtain ⟨hcontrolN, hwriteN, hreadN, hcontrol, hwrite, hread⟩ := pointRouters_sized hb
  rw [MemoryBlock.Sized, hlength]
  exact ⟨hcontrolN, hwriteN, hreadN, hcontrol, hwrite, hread⟩

theorem broadcastData_sized (hb : b.Sized) : b.broadcastData.Sized := by
  have hlength : b.broadcastData.n = b.pointRouters.n := by rw [broadcastData_n, pointRouters_n]
  obtain ⟨hcontrolN, hwriteN, hreadN, hcontrol, hwrite, hread⟩ := pointRouters_sized hb
  rw [MemoryBlock.Sized, hlength]
  exact ⟨hcontrolN, hwriteN, hreadN, hcontrol, hwrite, hread⟩

theorem readWord_sized (hb : b.Sized) (h : b.readWord = .ok (w, b')) : b'.Sized := by
  have hpoint := pointRouters_sized hb
  obtain ⟨-, -, rfl⟩ | ⟨-, i, hsel, -, rfl⟩ := readWord_eq_ok h
  · exact hpoint
  · obtain ⟨hcontrolN, hwriteN, -, hcontrol, hwrite, -⟩ := hpoint
    have hi : i < b.pointRouters.n := (pointRouters_n b).symm ▸ sel_lt hsel
    exact ⟨hcontrolN, hwriteN, List.length_map _, hcontrol, hwrite, hi⟩

/-- R25, R26, R31: every block operation keeps the routers inside the block sized and in range. -/
theorem Becomes.sized (h : b.Becomes A W b') (hb : b.Sized) : b'.Sized := by
  induction h with
  | refl => exact hb
  | control cs we clk _ ih => exact broadcastControl_sized ih
  | address _ _ ih => exact broadcastControl_sized ih
  | feed _ _ ih => exact broadcastData_sized ih
  | read _ hr ih => exact readWord_sized ih hr

/-! ### Values -/

/-- R12: the line an address selects is a `Sel` where the address is. -/
theorem pointRouters_inRange (hb : b.InRange p) : b.pointRouters.InRange p := by
  obtain ⟨haddr, hcontrol, hwrite, hread, hfeed, hinput, hlines, hinputs⟩ := hb
  have hselectors : fits p.addrBits b.pointRouters.controlDemux.selector ∧
      fits p.addrBits b.pointRouters.writeDemux.selector ∧ fits p.addrBits b.pointRouters.readMux.selector := by
    obtain ⟨i, hsel, hc, hw, hr⟩ | ⟨-, hc, hw, hr⟩ := b.pointRouters_selectors
    · have hi : fits p.addrBits i := lt_of_le_of_lt (by have := sel_eq_some_iff.mp hsel; omega) haddr
      exact ⟨hc ▸ hi, hw ▸ hi, hr ▸ hi⟩
    · rw [hc, hw, hr]
      exact ⟨hcontrol, hwrite, hread⟩
  obtain ⟨hc, hw, hr⟩ := hselectors
  exact ⟨by simpa using haddr, hc, hw, hr, by simpa using hfeed, by simpa using hinput, by simpa using hlines,
    by simpa using hinputs⟩

theorem broadcastControl_inRange (hb : b.InRange p) : b.broadcastControl.InRange p := by
  obtain ⟨haddr, hcontrol, hwrite, hread, hfeed, hinput, hlines, hinputs⟩ := pointRouters_inRange hb
  refine ⟨haddr, hcontrol, hwrite, hread, hfeed, hinput, fun c' hc' => ?_, hinputs⟩
  obtain ⟨i, hi⟩ := List.getElem?_of_mem hc'
  obtain ⟨c, hc, rfl⟩ := exists_line_of_broadcastControl hi
  obtain ⟨hqueued, hdata⟩ := hlines c (by simpa using List.mem_of_getElem? hc)
  rw [lineAfterControl_eq]
  refine ⟨hqueued, ?_⟩
  dsimp only
  split_ifs
  · exact hqueued
  · exact hdata

theorem broadcastData_inRange (hb : b.InRange p) : b.broadcastData.InRange p := by
  obtain ⟨haddr, hcontrol, hwrite, hread, hfeed, -, hlines, hinputs⟩ := pointRouters_inRange hb
  have hword : fits p.wordBits b.feed := by simpa using hfeed
  refine ⟨haddr, hcontrol, hwrite, hread, hfeed, hword, fun c' hc' => ?_, hinputs⟩
  obtain ⟨i, hi⟩ := List.getElem?_of_mem hc'
  obtain ⟨c, hc, rfl⟩ := exists_line_of_broadcastData hi
  obtain ⟨-, hdata⟩ := hlines c (by simpa using List.mem_of_getElem? hc)
  refine ⟨?_, hdata⟩
  dsimp only
  split_ifs
  · exact hword
  · exact fits_zero _

/-- R12: the output of a line is its data or 0. -/
theorem read_inRange {c : RegisterCell} (hc : c.InRange p) : fits p.wordBits c.read := by
  rw [RegisterCell.read]
  split_ifs
  · exact hc.2
  · exact fits_zero _

theorem readWord_inRange (hb : b.InRange p) (h : b.readWord = .ok (w, b')) : b'.InRange p := by
  have hpoint := pointRouters_inRange hb
  obtain ⟨-, -, rfl⟩ | ⟨-, i, hsel, -, rfl⟩ := readWord_eq_ok h
  · exact hpoint
  · obtain ⟨haddr, hcontrol, hwrite, -, hfeed, hinput, hlines, -⟩ := hpoint
    have hi : fits p.addrBits i := lt_of_le_of_lt (by have := sel_eq_some_iff.mp hsel; omega) hb.1
    exact ⟨haddr, hcontrol, hwrite, hi, hfeed, hinput, hlines, List.forall_mem_map.mpr fun c hc => read_inRange (hlines c hc)⟩

/-- R12, R179: the word a block answers lies in its type. -/
theorem readWord_word_inRange (hb : b.InRange p) (h : b.readWord = .ok (w, b')) : fits p.wordBits w := by
  obtain ⟨-, -, -, -, -, -, hlines, -⟩ := hb
  obtain ⟨-, rfl, -⟩ | ⟨-, i, hsel, rfl, -⟩ := readWord_eq_ok h
  · exact fits_zero _
  · have hc := List.getElem?_eq_getElem (sel_lt hsel)
    rw [hc]
    exact read_inRange (hlines _ (List.mem_of_getElem? hc))

/-- R12: every block operation with operands in their types keeps a block's values in theirs. -/
theorem Becomes.inRange (h : b.Becomes (fits p.addrBits) (fits p.wordBits) b') (hb : b.InRange p) : b'.InRange p := by
  induction h with
  | refl => exact hb
  | control cs we clk _ ih =>
    refine broadcastControl_inRange ?_
    exact ih
  | address _ ha ih =>
    obtain ⟨-, hrest⟩ := ih
    exact broadcastControl_inRange ⟨ha, hrest⟩
  | feed _ hw ih =>
    obtain ⟨haddr, hcontrol, hwrite, hread, -, hrest⟩ := ih
    exact broadcastData_inRange ⟨haddr, hcontrol, hwrite, hread, hw, hrest⟩
  | read _ hr ih => exact readWord_inRange ih hr

end

end MemoryBlock

/-! ## The copies of R31, step by step -/

section
variable {A W : Nat → Prop} {l l' : List MemoryBlock}

theorem copiesKept_of_becomes (h : List.Forall₂ (MemoryBlock.Becomes A W) l l') : CopiesKept l l' := by
  intro k b hb hcopy
  obtain ⟨hk, rfl⟩ := List.getElem?_eq_some_iff.mp hb
  have hk' : k < l'.length := h.length_eq ▸ hk
  exact ⟨l'[k], List.getElem?_eq_getElem hk', (List.Forall₂.get h hk hk').routersCopy hcopy⟩

end

/-- R31: a block operation on a block whose routers follow it makes copies. -/
theorem exec_blk_routersCopy {i : Instr} {s t : State} (hb : s.blk.RoutersFollow) (h : exec i s = .next t)
    (hkind : i.kind = .blk) : t.blk.RoutersCopy := by
  obtain ⟨hcontrol, hwrite, -⟩ := hb
  cases i with
  | blkSetChipSelect | blkSetWriteEnable | blkSetClock | blkSetAddress =>
    cases h
    exact MemoryBlock.broadcastControl_routersCopy hwrite
  | blkSetFeed =>
    cases h
    exact MemoryBlock.broadcastData_routersCopy hcontrol
  | blkReadWord =>
    obtain ⟨⟨w, b⟩, hread, rfl⟩ := orRaise_eq_next h
    exact MemoryBlock.readWord_routersCopy hcontrol hwrite hread
  | _ => cases hkind

/-- R31: so does a setter of the driver, in every block. -/
theorem exec_drv_routersCopy {i : Instr} {s t : State} (hd : ∀ b ∈ s.drv.blocks, b.RoutersFollow) (h : exec i s = .next t)
    (hkind : i.kind = .drv) (hread : isRead i = false) : ∀ b ∈ t.drv.blocks, b.RoutersCopy := by
  cases i with
  | drvSetChipSelect | drvSetWriteEnable | drvSetClock | drvSetAddress =>
    cases h
    refine List.forall_mem_map.mpr fun b hb => ?_
    obtain ⟨-, hwrite, -⟩ := hd b hb
    exact MemoryBlock.broadcastControl_routersCopy hwrite
  | drvSetFeed =>
    cases h
    refine List.forall_mem_map.mpr fun b hb => ?_
    obtain ⟨hcontrol, -⟩ := hd b hb
    exact MemoryBlock.broadcastData_routersCopy hcontrol
  | drvReadWord | drvDetermineBlockIndex | drvAddressWidth => cases hread
  | _ => cases hkind

/-- R197: the query answers the owning block. -/
theorem exec_drvDetermineBlockIndex_eq_next_iff {s : State} {a k : Nat} :
    exec (.drvDetermineBlockIndex a) s = .next { s with returned := s.returned ++ [.nat k] } ↔
      owningBlock s.drv.sizes a = some k := by
  constructor
  case mp =>
    intro h
    cases ho : owningBlock s.drv.sizes a with
    | none =>
      rw [exec_drvDetermineBlockIndex, Driver.determineBlockIndex_of_le (owningBlock_eq_none_iff.mp ho)] at h
      cases h
    | some j =>
      rw [exec_drvDetermineBlockIndex_of_owningBlock ho] at h
      simpa using congrArg State.returned (Host.Outcome.next.inj h)
  case mpr => exact exec_drvDetermineBlockIndex_of_owningBlock

/-- R31, R196: a read of the driver makes copies in the owning block, which it replaces. -/
theorem exec_drvReadWord_routersCopy {s t : State} {k : Nat} (hd : ∀ b ∈ s.drv.blocks, b.RoutersFollow)
    (h : exec .drvReadWord s = .next t) (hk : owningBlock s.drv.sizes s.drv.addr = some k) :
    ∃ b, t.drv.blocks[k]? = some b ∧ b.RoutersCopy := by
  obtain ⟨⟨w, d⟩, hread, rfl⟩ := orRaise_eq_next h
  obtain ⟨j, b, b', hj, hb, hblock, rfl⟩ := Driver.exists_block_of_readWord hread
  obtain rfl : j = k := Option.some.inj (hj.symm.trans hk)
  obtain ⟨hlt, -⟩ := List.getElem?_eq_some_iff.mp hb
  obtain ⟨hcontrol, hwrite, -⟩ := hd b (List.mem_of_getElem? hb)
  exact ⟨b', List.getElem?_set_self hlt, MemoryBlock.readWord_routersCopy hcontrol hwrite hblock⟩

/-- R31, R214: a genuine change of the controller's clock makes copies in every block of its driver. -/
theorem setClock_routersCopy {level : Bit} {k k' : Controller} (hd : ∀ b ∈ k.driver.blocks, b.RoutersFollow)
    (h : k.setClock level = .ok k') (hchange : level ≠ k.clock) : ∀ b ∈ k'.driver.blocks, b.RoutersCopy := by
  have hrequest : ∀ l, ∀ b ∈ (k.driver.applyRequest k.focused l).blocks, b.RoutersCopy := by
    intro l
    rw [Driver.applyRequest_blocks]
    refine List.forall_mem_map.mpr fun b hb => MemoryBlock.broadcastControl_routersCopy ?_
    have hfed : b.Becomes AnyOperand AnyOperand
        ((((b.setChipSelect k.focused.cs).setWriteEnable k.focused.we).setAddress k.focused.addr).setFeed k.focused.feed) :=
      (((MemoryBlock.Becomes.refl.setChipSelect _).setWriteEnable _).address trivial).feed trivial
    obtain ⟨-, hwrite, -⟩ := hfed.routersFollow (hd b hb)
    exact hwrite
  obtain ⟨rfl, -⟩ | ⟨-, -, w, d', hread, rfl⟩ | ⟨-, -, rfl⟩ := Controller.setClock_eq_ok h
  · exact absurd rfl hchange
  · exact forall_mem_of_forall₂ (Driver.becomes_readWord (A := AnyOperand) (W := AnyOperand) (forall₂_becomes_refl _) hread)
      (fun _ _ hb => hb.routersCopy) (hrequest true)
  · exact hrequest false

/-- Settles O50: every block operation keeps the copies, and from routers that follow the block the operations named make them. -/
theorem stepKeepsRoutersCopy : Obligations.StepKeepsRoutersCopy := by
  refine ⟨fun s t h => ?step, fun i s t hs h => ?exec⟩
  case step =>
    obtain ⟨hblk, hdrv, hctl⟩ := step_becomes h
    exact ⟨fun hs => step_keeps_blocks (fun _ _ => MemoryBlock.Becomes.routersFollow) hs h, hblk.routersCopy,
      copiesKept_of_becomes hdrv, copiesKept_of_becomes hctl⟩
  case exec =>
    obtain ⟨hblk, hdrivers⟩ := List.forall_mem_cons.mp hs
    obtain ⟨hdrv, hctl⟩ := List.forall_mem_append.mp hdrivers
    refine ⟨exec_blk_routersCopy hblk h, exec_drv_routersCopy hdrv h, fun k hi hk => ?read, fun level hi hchange => ?clock⟩
    case read =>
      subst hi
      exact exec_drvReadWord_routersCopy hdrv h (exec_drvDetermineBlockIndex_eq_next_iff.mp hk)
    case clock =>
      subst hi
      obtain ⟨k, hk, rfl⟩ := orRaise_eq_next h
      exact setClock_routersCopy hctl hk hchange

/-! ## Selectors -/

section
variable {i : Instr} {s t : State}

/-- R25: an operation keeps the multiplexer's selector in range. -/
theorem exec_mux_selector_lt (h : exec i s = .next t) (hs : s.mux.selector < s.mux.n) : t.mux.selector < t.mux.n := by
  cases i with
  | muxSetInputWord j w =>
    obtain ⟨m, hm, rfl⟩ := orRaise_eq_next h
    obtain ⟨-, rfl⟩ := Multiplexer.setInputWord_eq_ok hm
    simpa [Multiplexer.n] using hs
  | muxSetSelector a =>
    obtain ⟨m, hm, rfl⟩ := orRaise_eq_next h
    obtain ⟨ha, rfl⟩ := Multiplexer.setSelector_eq_ok hm
    exact ha
  | muxSetChipSelect | muxIsNarrow | muxRead =>
    cases h
    exact hs
  | _ => rwa [exec_mux_of_kind_ne h nofun]

/-- R26: an operation keeps the demultiplexer's selector in range. -/
theorem exec_dmx_selector_lt (h : exec i s = .next t) (hs : s.dmx.selector < s.dmx.n) : t.dmx.selector < t.dmx.n := by
  cases i with
  | dmxSetSelector k =>
    obtain ⟨d, hd, rfl⟩ := orRaise_eq_next h
    obtain ⟨hk, rfl⟩ := Demultiplexer.setSelector_eq_ok hd
    exact hk
  | dmxRead j =>
    obtain ⟨w, -, rfl⟩ := orRaise_eq_next h
    exact hs
  | dmxSetInputWord | dmxSetChipSelect | dmxIsNarrow =>
    cases h
    exact hs
  | _ => rwa [exec_dmx_of_kind_ne h nofun]

/-- R40: an operation keeps the focus on a core. -/
theorem exec_focus_lt (h : exec i s = .next t) (hs : s.ctl.focus < s.ctl.coreCount) : t.ctl.focus < t.ctl.coreCount := by
  have hcores : t.ctl.coreCount = s.ctl.coreCount := (exec_sameConstants h).cores
  rw [hcores]
  cases i with
  | ctlSetClock level =>
    obtain ⟨k, hk, rfl⟩ := orRaise_eq_next h
    obtain ⟨-, rfl⟩ | ⟨-, -, w, d', -, rfl⟩ | ⟨-, -, rfl⟩ := Controller.setClock_eq_ok hk
    · exact hs
    · exact hs
    · exact Nat.mod_lt _ (Nat.zero_lt_of_lt hs)
  | ctlSetChipSelect | ctlSetWriteEnable | ctlSetAddress | ctlSetFeed | ctlReadResponse =>
    obtain ⟨q, -, rfl⟩ := onRecord_eq_next h
    exact hs
  | _ => rwa [exec_ctl_of_kind_ne h nofun]

end

/-- Settles O53: the routers inside the blocks by the operations of a block, the other selectors by the selector checks. -/
theorem stepKeepsSelectorsInRange : Obligations.StepKeepsSelectorsInRange := by
  intro s t hs h
  have hsized : ∀ b ∈ t.blocks, b.Sized := by
    obtain ⟨-, -, hblocks, -⟩ := hs
    exact step_keeps_blocks (fun _ _ => MemoryBlock.Becomes.sized) hblocks h
  obtain ⟨hmux, hdmx, -, hfocus⟩ := hs
  obtain rfl | ⟨i, rest, -, hi⟩ := exec_of_step h
  · exact ⟨hmux, hdmx, hsized, hfocus⟩
  · exact ⟨exec_mux_selector_lt hi hmux, exec_dmx_selector_lt hi hdmx, hsized, exec_focus_lt hi hfocus⟩

/-! ## Values -/

section
variable {i : Instr} {s t : State} {p : Widths} {n : Nat} {k : Kind}

/-- R95: the operand a well-formed operation gives the blocks lies in its type. -/
theorem operandsIn_of_wellFormed (hwf : i.WellFormed p n k = true) :
    OperandsIn (fits p.addrBits) (fits p.wordBits) i := by
  obtain ⟨-, hi⟩ := (operandsLieInTheirTypes _ _ _ _).mp hwf
  cases i with
  | blkSetAddress | drvSetAddress | blkSetFeed | drvSetFeed => exact hi
  | _ => trivial

theorem exec_srl_inRange (hwf : i.WellFormed p n k = true) (h : exec i s = .next t) (hs : fits p.wordBits s.srl.stored) :
    fits p.wordBits t.srl.stored := by
  obtain ⟨-, hi⟩ := (operandsLieInTheirTypes _ _ _ _).mp hwf
  cases i with
  | srlSet => cases h; exact hi
  | srlReset => cases h; exact fits_zero _
  | srlRead => cases h; exact hs
  | _ => rwa [exec_srl_of_kind_ne h nofun]

theorem exec_dff_inRange (hwf : i.WellFormed p n k = true) (h : exec i s = .next t)
    (hs : fits p.wordBits s.dff.stored ∧ fits p.wordBits s.dff.directInput) :
    fits p.wordBits t.dff.stored ∧ fits p.wordBits t.dff.directInput := by
  obtain ⟨hstored, hdirect⟩ := hs
  obtain ⟨-, hi⟩ := (operandsLieInTheirTypes _ _ _ _).mp hwf
  cases i with
  | dffSetData => cases h; exact ⟨hstored, hi⟩
  | dffSetClock level =>
    rw [exec_dffSetClock, ClockedSetResetLatch.setClock_eq] at h
    cases h
    refine ⟨?_, hdirect⟩
    dsimp only
    split_ifs
    · exact hdirect
    · exact hstored
  | dffReset => cases h; exact ⟨fits_zero _, fits_zero _⟩
  | dffRead => cases h; exact ⟨hstored, hdirect⟩
  | _ => rw [exec_dff_of_kind_ne h nofun]; exact ⟨hstored, hdirect⟩

theorem exec_mux_inRange (hwf : i.WellFormed p n k = true) (h : exec i s = .next t)
    (hs : (∀ w ∈ s.mux.inputs, fits p.wordBits w) ∧ fits p.addrBits s.mux.selector) :
    (∀ w ∈ t.mux.inputs, fits p.wordBits w) ∧ fits p.addrBits t.mux.selector := by
  obtain ⟨hinputs, hselector⟩ := hs
  obtain ⟨-, hi⟩ := (operandsLieInTheirTypes _ _ _ _).mp hwf
  cases i with
  | muxSetInputWord j w =>
    obtain ⟨m, hm, rfl⟩ := orRaise_eq_next h
    obtain ⟨-, rfl⟩ := Multiplexer.setInputWord_eq_ok hm
    refine ⟨fun x hx => ?_, hselector⟩
    obtain hx | rfl := List.mem_or_eq_of_mem_set hx
    · exact hinputs x hx
    · exact hi.2
  | muxSetSelector a =>
    obtain ⟨m, hm, rfl⟩ := orRaise_eq_next h
    obtain ⟨-, rfl⟩ := Multiplexer.setSelector_eq_ok hm
    exact ⟨hinputs, hi⟩
  | muxSetChipSelect | muxIsNarrow | muxRead => cases h; exact ⟨hinputs, hselector⟩
  | _ => rw [exec_mux_of_kind_ne h nofun]; exact ⟨hinputs, hselector⟩

theorem exec_dmx_inRange (hwf : i.WellFormed p n k = true) (h : exec i s = .next t)
    (hs : fits p.wordBits s.dmx.input ∧ fits p.addrBits s.dmx.selector) :
    fits p.wordBits t.dmx.input ∧ fits p.addrBits t.dmx.selector := by
  obtain ⟨hinput, hselector⟩ := hs
  obtain ⟨-, hi⟩ := (operandsLieInTheirTypes _ _ _ _).mp hwf
  cases i with
  | dmxSetInputWord => cases h; exact ⟨hi, hselector⟩
  | dmxSetSelector a =>
    obtain ⟨d, hd, rfl⟩ := orRaise_eq_next h
    obtain ⟨-, rfl⟩ := Demultiplexer.setSelector_eq_ok hd
    exact ⟨hinput, hi⟩
  | dmxRead =>
    obtain ⟨_, -, rfl⟩ := orRaise_eq_next h
    exact ⟨hinput, hselector⟩
  | dmxSetChipSelect | dmxIsNarrow => cases h; exact ⟨hinput, hselector⟩
  | _ => rw [exec_dmx_of_kind_ne h nofun]; exact ⟨hinput, hselector⟩

theorem exec_cell_inRange (hwf : i.WellFormed p n k = true) (h : exec i s = .next t) (hs : s.cell.InRange p) :
    t.cell.InRange p := by
  obtain ⟨hqueued, hdata⟩ := hs
  obtain ⟨-, hi⟩ := (operandsLieInTheirTypes _ _ _ _).mp hwf
  cases i with
  | cellSetInput => cases h; exact ⟨hi, hdata⟩
  | cellSetClock level =>
    rw [exec_cellSetClock, RegisterCell.setClock_eq] at h
    cases h
    refine ⟨hqueued, ?_⟩
    dsimp only
    split_ifs
    · exact hqueued
    · exact hdata
  | cellSetChipSelect | cellSetWriteEnable | cellRead => cases h; exact ⟨hqueued, hdata⟩
  | _ => rw [exec_cell_of_kind_ne h nofun]; exact ⟨hqueued, hdata⟩

theorem exec_drv_addr_inRange (hwf : i.WellFormed p n k = true) (h : exec i s = .next t) (hs : fits p.addrBits s.drv.addr) :
    fits p.addrBits t.drv.addr := by
  obtain ⟨-, hi⟩ := (operandsLieInTheirTypes _ _ _ _).mp hwf
  cases i with
  | drvSetAddress => cases h; exact hi
  | drvReadWord =>
    obtain ⟨⟨w, d⟩, hread, rfl⟩ := orRaise_eq_next h
    exact (Driver.readWord_addr hread).symm ▸ hs
  | drvDetermineBlockIndex =>
    obtain ⟨_, -, rfl⟩ := orRaise_eq_next h
    exact hs
  | drvSetChipSelect | drvSetWriteEnable | drvSetClock | drvSetFeed | drvAddressWidth => cases h; exact hs
  | _ => rwa [exec_drv_of_kind_ne h nofun]

/-- R12: the focused record lies in its type, also where the model has to take the zero record (log entry 15). -/
theorem Controller.focused_inRange {c : Controller} (hc : ∀ q ∈ c.queue, q.InRange p) : c.focused.InRange p := by
  rw [focused]
  cases hq : c.queue[c.focus]? with
  | none => exact ⟨fits_zero _, fits_zero _, fits_zero _⟩
  | some q => exact hc q (List.mem_of_getElem? hq)

/-- R12: replacing a record by one in its type. -/
theorem forall_mem_set_inRange {queue : List QueueRecord} {c : Nat} {q : QueueRecord} (hqueue : ∀ x ∈ queue, x.InRange p)
    (hq : q.InRange p) : ∀ x ∈ queue.set c q, x.InRange p := by
  intro x hx
  obtain hx | rfl := List.mem_or_eq_of_mem_set hx
  · exact hqueue x hx
  · exact hq

/-- R12, R214: a captured response is a word of the driver's memory, or 0. -/
theorem Driver.readWord_word_inRange {d d' : Driver} {w : Word} (hd : ∀ b ∈ d.blocks, b.InRange p)
    (h : d.readWord = .ok (w, d')) : fits p.wordBits w := by
  obtain ⟨_, b, _, -, hb, hread, -⟩ := exists_block_of_readWord h
  exact MemoryBlock.readWord_word_inRange (hd b (List.mem_of_getElem? hb)) hread

theorem setClock_inRange {level : Bit} {c c' : Controller} (hblocks : ∀ b ∈ c.driver.blocks, b.InRange p)
    (haddr : fits p.addrBits c.driver.addr) (hqueue : ∀ q ∈ c.queue, q.InRange p) (h : c.setClock level = .ok c') :
    fits p.addrBits c'.driver.addr ∧ ∀ q ∈ c'.queue, q.InRange p := by
  obtain ⟨hfocusedAddr, hfocusedFeed, -⟩ := Controller.focused_inRange hqueue
  obtain ⟨-, rfl⟩ | ⟨-, -, w, d', hread, rfl⟩ | ⟨-, -, rfl⟩ := Controller.setClock_eq_ok h
  · exact ⟨haddr, hqueue⟩
  · have hrequest : ∀ b ∈ (c.driver.applyRequest c.focused true).blocks, b.InRange p :=
      forall_mem_of_forall₂ (c.driver.becomes_applyRequest true hfocusedAddr hfocusedFeed)
        (fun _ _ => MemoryBlock.Becomes.inRange) hblocks
    refine ⟨?_, forall_mem_set_inRange hqueue ⟨hfocusedAddr, hfocusedFeed, Driver.readWord_word_inRange hrequest hread⟩⟩
    rw [Driver.readWord_addr hread]
    exact hfocusedAddr
  · exact ⟨hfocusedAddr, hqueue⟩

theorem exec_ctl_inRange (hwf : i.WellFormed p n k = true) (h : exec i s = .next t)
    (hblocks : ∀ b ∈ s.ctl.driver.blocks, b.InRange p) (haddr : fits p.addrBits s.ctl.driver.addr)
    (hqueue : ∀ q ∈ s.ctl.queue, q.InRange p) :
    fits p.addrBits t.ctl.driver.addr ∧ ∀ q ∈ t.ctl.queue, q.InRange p := by
  obtain ⟨-, hi⟩ := (operandsLieInTheirTypes _ _ _ _).mp hwf
  cases i with
  | ctlSetClock level =>
    obtain ⟨c, hc, rfl⟩ := orRaise_eq_next h
    exact setClock_inRange hblocks haddr hqueue hc
  | ctlSetChipSelect | ctlSetWriteEnable =>
    obtain ⟨q, hq, rfl⟩ := onRecord_eq_next h
    exact ⟨haddr, forall_mem_set_inRange hqueue (hqueue q (List.mem_of_getElem? hq))⟩
  | ctlSetAddress =>
    obtain ⟨q, hq, rfl⟩ := onRecord_eq_next h
    obtain ⟨-, hrest⟩ := hqueue q (List.mem_of_getElem? hq)
    exact ⟨haddr, forall_mem_set_inRange hqueue ⟨hi.2, hrest⟩⟩
  | ctlSetFeed =>
    obtain ⟨q, hq, rfl⟩ := onRecord_eq_next h
    obtain ⟨hqaddr, -, hresponse⟩ := hqueue q (List.mem_of_getElem? hq)
    exact ⟨haddr, forall_mem_set_inRange hqueue ⟨hqaddr, hi.2, hresponse⟩⟩
  | ctlReadResponse =>
    obtain ⟨_, -, rfl⟩ := onRecord_eq_next h
    exact ⟨haddr, hqueue⟩
  | _ => rw [exec_ctl_of_kind_ne h nofun]; exact ⟨haddr, hqueue⟩

end

/-- R12: a well-formed operation keeps every value in its type. -/
theorem exec_valuesInRange {i : Instr} {s t : State} (hs : s.ValuesInRange)
    (hwf : i.WellFormed s.widths s.ctl.coreCount s.fixture = true) (h : exec i s = .next t) : t.ValuesInRange := by
  obtain ⟨hsrl, hdffStored, hdffDirect, hmuxInputs, hdmxInput, hmuxSelector, hdmxSelector, hcell, hblocks, hdrvAddr, hctlAddr,
    hqueue⟩ := hs
  obtain ⟨hfocusedAddr, hfocusedFeed, -⟩ := Controller.focused_inRange hqueue
  obtain ⟨-, hdrivers⟩ := List.forall_mem_cons.mp hblocks
  obtain ⟨-, hctlBlocks⟩ := List.forall_mem_append.mp hdrivers
  obtain ⟨hdffStored', hdffDirect'⟩ := exec_dff_inRange hwf h ⟨hdffStored, hdffDirect⟩
  obtain ⟨hmuxInputs', hmuxSelector'⟩ := exec_mux_inRange hwf h ⟨hmuxInputs, hmuxSelector⟩
  obtain ⟨hdmxInput', hdmxSelector'⟩ := exec_dmx_inRange hwf h ⟨hdmxInput, hdmxSelector⟩
  obtain ⟨hctlAddr', hqueue'⟩ := exec_ctl_inRange hwf h hctlBlocks hctlAddr hqueue
  have hblocks' : ∀ b ∈ t.blocks, b.InRange s.widths :=
    forall_mem_of_forall₂ (exec_blocks_becomes h (operandsIn_of_wellFormed hwf) hfocusedAddr hfocusedFeed)
      (fun _ _ => MemoryBlock.Becomes.inRange) hblocks
  rw [State.ValuesInRange, exec_widths h]
  exact ⟨exec_srl_inRange hwf h hsrl, hdffStored', hdffDirect', hmuxInputs', hdmxInput', hmuxSelector', hdmxSelector',
    exec_cell_inRange hwf h hcell, hblocks', exec_drv_addr_inRange hwf h hdrvAddr, hctlAddr', hqueue'⟩

/-- Settles O54: a step runs well-formed operations only. -/
theorem stepKeepsValuesInRange : Obligations.StepKeepsValuesInRange :=
  fun _ _ => step_keeps (fun _ _ hu => hu) fun _ _ _ => exec_valuesInRange

end Sys2Proof.Machine
end

section
/-! SUPPORT. A driver as one block (20_memory.md R66, 44_memory_driver.md R190, R191, R200, R201): the blocks of a driver that is laid
out are the lines of one block at base 0, cut into pieces, and stay so under every operation. -/

namespace Sys2Proof.Machine

namespace MemoryBlock

section
variable {b b' x : MemoryBlock} {i : Nat} {c : RegisterCell}

/-! ## The lines after a broadcast, by address -/

theorem broadcastControl_lines (b : MemoryBlock) : b.broadcastControl.lines =
    b.lines.mapIdx fun i c => lineAfterControl (decide (b.addr = b.base + i)) b.cs b.we b.clk c := by
  refine List.ext_getElem? fun i => ?_
  cases hc : b.lines[i]? with
  | none => simp [broadcastControl_getElem?, hc]
  | some c => simp [broadcastControl_line_at hc, hc]

theorem broadcastData_lines (b : MemoryBlock) : b.broadcastData.lines =
    b.lines.mapIdx fun i c => { c with queued := if b.addr = b.base + i then b.feed else 0 } := by
  refine List.ext_getElem? fun i => ?_
  cases hc : b.lines[i]? with
  | none => simp [broadcastData_getElem?, hc]
  | some c => simp [broadcastData_line_at hc, hc]

/-- R191: the two blocks agree on everything a driver fans out. -/
structure Shares (x b : MemoryBlock) : Prop where
  cs : x.cs = b.cs
  we : x.we = b.we
  clk : x.clk = b.clk
  addr : x.addr = b.addr
  feed : x.feed = b.feed

theorem Shares.rfl : b.Shares b := ⟨.refl _, .refl _, .refl _, .refl _, .refl _⟩

theorem Shares.symm (h : x.Shares b) : b.Shares x := ⟨h.cs.symm, h.we.symm, h.clk.symm, h.addr.symm, h.feed.symm⟩

theorem Shares.trans (h : x.Shares b) (h' : b.Shares b') : x.Shares b' :=
  ⟨h.cs.trans h'.cs, h.we.trans h'.we, h.clk.trans h'.clk, h.addr.trans h'.addr, h.feed.trans h'.feed⟩

theorem shares_of_hideRouters (h : x.hideRouters = b.hideRouters) : x.Shares b :=
  ⟨(congrArg MemoryBlock.cs h :), (congrArg MemoryBlock.we h :), (congrArg MemoryBlock.clk h :),
    (congrArg MemoryBlock.addr h :), (congrArg MemoryBlock.feed h :)⟩

theorem broadcastControl_shares (b : MemoryBlock) : b.broadcastControl.Shares b := by
  constructor <;> simp

theorem broadcastData_shares (b : MemoryBlock) : b.broadcastData.Shares b := by
  constructor <;> simp

end

end MemoryBlock

/-! ## A driver's blocks as the pieces of one block -/

/-- R66, R190, R191: the driver's blocks lie one after the other, agree with `b` on everything fanned out, and hold its lines. -/
structure Driver.IsSplitOf (d : Driver) (b : MemoryBlock) : Prop where
  base : b.base = 0
  wf : Memory.wf d.blocks = true
  addr : b.addr = d.addr
  shares : ∀ x ∈ d.blocks, x.Shares b
  lines : b.lines = d.blocks.flatMap MemoryBlock.lines

section
variable {blocks : List MemoryBlock} {base k i : Nat} {x : MemoryBlock} {c : RegisterCell}

/-- A change of every line by its address, block by block or along all lines. -/
theorem flatMap_mapIdx_of_contiguousFrom {g : Nat → RegisterCell → RegisterCell} (h : contiguousFrom base blocks = true) :
    (blocks.flatMap fun x => x.lines.mapIdx fun i c => g (x.base + i) c) =
      (blocks.flatMap MemoryBlock.lines).mapIdx fun i c => g (base + i) c := by
  induction blocks generalizing base with
  | nil => rfl
  | cons y rest ih =>
    obtain ⟨rfl, hrest⟩ := contiguousFrom_cons.mp h
    have hshift : ∀ i, y.base + y.n + i = y.base + (i + y.lines.length) := fun i => by rw [MemoryBlock.n]; omega
    rw [List.flatMap_cons, List.flatMap_cons, List.mapIdx_append, ih hrest]
    simp only [hshift]

/-- A line of a block lies among all lines where its block starts. -/
theorem flatMap_lines_getElem? (h : contiguousFrom base blocks = true) (hx : blocks[k]? = some x)
    (hc : x.lines[i]? = some c) : base ≤ x.base ∧ (blocks.flatMap MemoryBlock.lines)[x.base - base + i]? = some c := by
  induction blocks generalizing base k with
  | nil => simp at hx
  | cons y rest ih =>
    obtain ⟨rfl, hrest⟩ := contiguousFrom_cons.mp h
    rw [List.flatMap_cons]
    cases k with
    | zero =>
      obtain rfl : y = x := by simpa using hx
      have hi := (List.getElem?_eq_some_iff.mp hc).1
      rw [Nat.sub_self, Nat.zero_add, List.getElem?_append_left hi]
      exact ⟨le_rfl, hc⟩
    | succ k =>
      obtain ⟨hle, hline⟩ := ih hrest (by simpa using hx)
      rw [MemoryBlock.n] at hle hline
      refine ⟨by omega, ?_⟩
      rw [List.getElem?_append_right (by omega), ← hline]
      congr 1
      omega

theorem length_flatMap_lines (blocks : List MemoryBlock) :
    (blocks.flatMap MemoryBlock.lines).length = totalLines (blocks.map MemoryBlock.n) := by
  rw [List.length_flatMap, totalLines]
  rfl

end

namespace Driver

section
variable {d d' : Driver} {b b' : MemoryBlock} {a : Nat} {l : Bit} {w : Word}

theorem IsSplitOf.n (h : d.IsSplitOf b) : b.n = totalLines d.sizes := by
  rw [MemoryBlock.n, h.lines, length_flatMap_lines, sizes]

/-! ### The fan-out of a setter -/

/-- R191: fields written in the same way in every block. -/
theorem IsSplitOf.write {f : MemoryBlock → MemoryBlock} (h : d.IsSplitOf b) (haddr : (f b).addr = a)
    (hshares : ∀ x : MemoryBlock, x.Shares b → (f x).Shares (f b)) (hbase : ∀ x, (f x).base = x.base)
    (hlines : ∀ x, (f x).lines = x.lines) : IsSplitOf ({ d with addr := a }.fanOut f) (f b) where
  base := (hbase b).trans h.base
  wf := (contiguousFrom_map hbase (fun x => congrArg List.length (hlines x)) 0 d.blocks).trans h.wf
  addr := haddr
  shares := List.forall_mem_map.mpr fun x hx => hshares x (h.shares x hx)
  lines := by simp only [fanOut, List.flatMap_map, hlines, h.lines]

/-- R191: a broadcast in every block that changes the lines by their addresses is the broadcast over all lines. -/
theorem IsSplitOf.broadcast {f : MemoryBlock → MemoryBlock} {g : Nat → RegisterCell → RegisterCell} (h : d.IsSplitOf b)
    (hshares : ∀ x : MemoryBlock, (f x).Shares x) (hbase : ∀ x, (f x).base = x.base) (hn : ∀ x, (f x).n = x.n)
    (hlines : ∀ x : MemoryBlock, x.Shares b → (f x).lines = x.lines.mapIdx fun i c => g (x.base + i) c) :
    (d.fanOut f).IsSplitOf (f b) where
  base := (hbase b).trans h.base
  wf := (contiguousFrom_map hbase hn 0 d.blocks).trans h.wf
  addr := (hshares b).addr.trans h.addr
  shares := List.forall_mem_map.mpr fun x hx => ((hshares x).trans (h.shares x hx)).trans (hshares b).symm
  lines := by
    rw [hlines b .rfl, h.lines, h.base, fanOut, List.flatMap_map, ← flatMap_mapIdx_of_contiguousFrom h.wf]
    simp only [List.flatMap_def]
    rw [List.map_congr_left fun x hx => hlines x (h.shares x hx)]

theorem IsSplitOf.broadcastControl (h : d.IsSplitOf b) :
    (d.fanOut MemoryBlock.broadcastControl).IsSplitOf b.broadcastControl := by
  refine h.broadcast (g := fun j c => lineAfterControl (decide (b.addr = j)) b.cs b.we b.clk c)
    MemoryBlock.broadcastControl_shares MemoryBlock.broadcastControl_base MemoryBlock.broadcastControl_n fun x hx => ?_
  rw [x.broadcastControl_lines, hx.cs, hx.we, hx.clk, hx.addr]

theorem IsSplitOf.broadcastData (h : d.IsSplitOf b) :
    (d.fanOut MemoryBlock.broadcastData).IsSplitOf b.broadcastData := by
  refine h.broadcast (g := fun j c => { c with queued := if b.addr = j then b.feed else 0 })
    MemoryBlock.broadcastData_shares MemoryBlock.broadcastData_base MemoryBlock.broadcastData_n fun x hx => ?_
  rw [x.broadcastData_lines, hx.feed, hx.addr]

theorem fanOut_fanOut (f g : MemoryBlock → MemoryBlock) (d : Driver) : (d.fanOut f).fanOut g = d.fanOut (g ∘ f) := by
  rw [fanOut, fanOut, fanOut, List.map_map]

/-- R191: a control setter in every block: a field written, then the control word broadcast. -/
theorem IsSplitOf.control {f : MemoryBlock → MemoryBlock} (h : d.IsSplitOf b) (haddr : (f b).addr = a)
    (hshares : ∀ x : MemoryBlock, x.Shares b → (f x).Shares (f b)) (hbase : ∀ x, (f x).base = x.base)
    (hlines : ∀ x, (f x).lines = x.lines) :
    IsSplitOf ({ d with addr := a }.fanOut (MemoryBlock.broadcastControl ∘ f)) (f b).broadcastControl := by
  rw [← fanOut_fanOut]
  exact (h.write haddr hshares hbase hlines).broadcastControl

theorem IsSplitOf.setChipSelect (h : d.IsSplitOf b) (l : Bit) : (d.setChipSelect l).IsSplitOf (b.setChipSelect l) :=
  h.control (f := fun x => { x with cs := l }) h.addr (fun _ hx => { hx with cs := rfl }) (fun _ => rfl) fun _ => rfl

theorem IsSplitOf.setWriteEnable (h : d.IsSplitOf b) (l : Bit) : (d.setWriteEnable l).IsSplitOf (b.setWriteEnable l) :=
  h.control (f := fun x => { x with we := l }) h.addr (fun _ hx => { hx with we := rfl }) (fun _ => rfl) fun _ => rfl

theorem IsSplitOf.setClock (h : d.IsSplitOf b) (l : Bit) : (d.setClock l).IsSplitOf (b.setClock l) :=
  h.control (f := fun x => { x with clk := l }) h.addr (fun _ hx => { hx with clk := rfl }) (fun _ => rfl) fun _ => rfl

theorem IsSplitOf.setAddress (h : d.IsSplitOf b) (a : Nat) : (d.setAddress a).IsSplitOf (b.setAddress a) :=
  h.control (f := fun x => { x with addr := a }) rfl (fun _ hx => { hx with addr := rfl }) (fun _ => rfl) fun _ => rfl

theorem IsSplitOf.setFeed (h : d.IsSplitOf b) (w : Word) : (d.setFeed w).IsSplitOf (b.setFeed w) := by
  have hsplit := (h.write (f := fun x => { x with feed := w }) h.addr (fun _ hx => { hx with feed := rfl }) (fun _ => rfl)
    fun _ => rfl).broadcastData
  rwa [fanOut_fanOut] at hsplit

/-- R214: the request of a core, applied to the driver or to the one block. -/
theorem IsSplitOf.applyRequest (h : d.IsSplitOf b) (q : QueueRecord) (level : Bit) :
    (d.applyRequest q level).IsSplitOf (b.applyRequest q level) :=
  ((((h.setChipSelect q.cs).setWriteEnable q.we).setAddress q.addr).setFeed q.feed).setClock level

/-! ### The read -/

/-- What leaves the routers aside is a function of the blocks without them. -/
theorem eq_of_map_hideRouters {α : Type} {f : List MemoryBlock → α} {l l' : List MemoryBlock}
    (hf : ∀ l, f (l.map MemoryBlock.hideRouters) = f l)
    (h : l'.map MemoryBlock.hideRouters = l.map MemoryBlock.hideRouters) : f l' = f l := by
  rw [← hf l', h, hf l]

/-- R65: the routers of the blocks play no part. -/
theorem IsSplitOf.of_hideRouters (h : d.IsSplitOf b) (hb : b'.hideRouters = b.hideRouters) (haddr : d'.addr = d.addr)
    (hd : d'.blocks.map MemoryBlock.hideRouters = d.blocks.map MemoryBlock.hideRouters) : d'.IsSplitOf b' where
  base := (congrArg MemoryBlock.base hb).trans h.base
  wf := (eq_of_map_hideRouters (contiguousFrom_map (f := MemoryBlock.hideRouters) (fun _ => rfl) (fun _ => rfl) 0) hd).trans h.wf
  addr := (congrArg MemoryBlock.addr hb).trans (h.addr.trans haddr.symm)
  shares := by
    intro x hx
    obtain ⟨y, hy, hxy⟩ := List.mem_map.mp (hd ▸ List.mem_map_of_mem (f := MemoryBlock.hideRouters) hx)
    have hyb := h.shares y hy
    exact ((MemoryBlock.shares_of_hideRouters hxy).symm.trans hyb).trans (MemoryBlock.shares_of_hideRouters hb).symm
  lines := by
    rw [eq_of_map_hideRouters (f := fun l => l.flatMap MemoryBlock.lines) (fun _ => List.flatMap_map ..) hd, ← h.lines]
    exact (congrArg MemoryBlock.lines hb :)

/-- R196, R201: the owning block holds the line that the one block selects, and neither address nor chip-select tell the two
apart. -/
theorem IsSplitOf.owning (h : d.IsSplitOf b) (ha : d.addr < totalLines d.sizes) :
    ∃ k x i c, owningBlock d.sizes d.addr = some k ∧ d.blocks[k]? = some x ∧ x.Shares b ∧
      x.sel = some i ∧ x.lines[i]? = some c ∧ b.sel = some d.addr ∧ b.lines[d.addr]? = some c := by
  obtain ⟨k, hk⟩ := exists_owningBlock ha
  obtain ⟨x, hx, hlo, hhi⟩ := (owningBlock_eq_some_iff_of_wf h.wf).mp hk
  have hshares := h.shares x (List.mem_of_getElem? hx)
  have hxaddr : x.addr = d.addr := hshares.addr.trans h.addr
  have hi : d.addr - x.base < x.lines.length := Nat.sub_lt_left_of_lt_add hlo hhi
  have hc := List.getElem?_eq_getElem hi
  obtain ⟨-, hline⟩ := flatMap_lines_getElem? h.wf hx hc
  rw [Nat.sub_zero, Nat.add_sub_of_le hlo, ← h.lines] at hline
  refine ⟨k, x, d.addr - x.base, _, hk, hx, hshares, ?_, hc, ?_, hline⟩
  · exact MemoryBlock.sel_eq_some_iff.mpr ⟨by omega, hi⟩
  · exact MemoryBlock.sel_eq_some_iff.mpr ⟨by rw [h.base, h.addr, Nat.zero_add], (List.getElem?_eq_some_iff.mp hline).1⟩

/-- R196, R201: within the memory a read of the driver answers what the one block's does. -/
theorem IsSplitOf.readWord (h : d.IsSplitOf b) (ha : d.addr < totalLines d.sizes) :
    ∃ w d' b', d.readWord = .ok (w, d') ∧ b.readWord = .ok (w, b') ∧ d'.IsSplitOf b' := by
  obtain ⟨k, x, i, c, hk, hx, hshares, hxsel, hxc, hbsel, hbc⟩ := h.owning ha
  have hread : ∃ w x' b', x.readWord = .ok (w, x') ∧ b.readWord = .ok (w, b') := by
    cases hcs : b.cs with
    | false => exact ⟨0, _, _, MemoryBlock.readWord_of_not_cs (hshares.cs.trans hcs), MemoryBlock.readWord_of_not_cs hcs⟩
    | true =>
      exact ⟨c.read, _, _, MemoryBlock.readWord_of_sel_some (hshares.cs.trans hcs) hxsel hxc,
        MemoryBlock.readWord_of_sel_some hcs hbsel hbc⟩
  obtain ⟨w, x', b', hxread, hbread⟩ := hread
  exact ⟨w, _, b', readWord_of_owningBlock hk hx hxread, hbread,
    h.of_hideRouters (MemoryBlock.readWord_hideRouters hbread) rfl
      (map_hideRouters_set hx (MemoryBlock.readWord_hideRouters hxread))⟩

/-- R196: a read answers exactly within the memory, and leaves the driver split. -/
theorem IsSplitOf.of_readWord (h : d.IsSplitOf b) (hr : d.readWord = .ok (w, d')) :
    d.addr < totalLines d.sizes ∧ ∃ b', b.readWord = .ok (w, b') ∧ d'.IsSplitOf b' := by
  rcases lt_or_ge d.addr (totalLines d.sizes) with ha | ha
  · obtain ⟨w', d'', b', hd, hb, hsplit⟩ := h.readWord ha
    cases hd.symm.trans hr
    exact ⟨ha, b', hb, hsplit⟩
  · cases (readWord_of_le ha).symm.trans hr

/-! ### The words -/

/-- R60, R66: the driver's word at an address is the one block's. -/
theorem IsSplitOf.dataAt (h : d.IsSplitOf b) (a : Nat) : d.dataAt a = b.dataAt a := by
  rcases lt_or_ge a (totalLines d.sizes) with ha | ha
  · obtain ⟨k, hk⟩ := exists_owningBlock ha
    obtain ⟨x, hx, hlo, hhi⟩ := (owningBlock_eq_some_iff_of_wf h.wf).mp hk
    obtain ⟨w, hw⟩ := MemoryBlock.exists_dataAt hlo hhi
    obtain ⟨i, c, rfl, hc, hdata⟩ := MemoryBlock.dataAt_eq_some_iff.mp hw
    obtain ⟨-, hline⟩ := flatMap_lines_getElem? h.wf hx hc
    rw [Nat.sub_zero, ← h.lines] at hline
    rw [Driver.dataAt, findSome?_dataAt_of_contiguousFrom h.wf hx hlo hw]
    exact (MemoryBlock.dataAt_eq_some_iff.mpr ⟨_, c, by rw [h.base, Nat.zero_add], hline, hdata⟩).symm
  · rw [MemoryBlock.dataAt_eq_none (by rwa [h.base, Nat.zero_add, h.n]), Driver.dataAt, List.findSome?_eq_none_iff]
    intro x hx
    obtain ⟨k, hk⟩ := List.mem_iff_getElem?.mp hx
    refine Option.eq_none_iff_forall_ne_some.mpr fun w hw => ?_
    obtain ⟨i, c, rfl, hc, -⟩ := MemoryBlock.dataAt_eq_some_iff.mp hw
    have hi : i < x.n := (List.getElem?_eq_some_iff.mp hc).1
    have howned := (owningBlock_eq_some_iff_of_wf h.wf).mpr ⟨x, hk, Nat.le_add_right .., Nat.add_lt_add_left hi _⟩
    cases howned.symm.trans (owningBlock_eq_none_iff.mpr ha)

theorem IsSplitOf.exists_dataAt (h : d.IsSplitOf b) (ha : a < totalLines d.sizes) : ∃ w, d.dataAt a = some w := by
  rw [h.dataAt]
  exact MemoryBlock.exists_dataAt (by rw [h.base]; exact Nat.zero_le a) (by rwa [h.base, Nat.zero_add, h.n])

/-! ### The layout -/

/-- R38, R66, R191: the one block whose pieces a driver's blocks are: all lines, under the fields the blocks agree on. -/
def joined (d : Driver) : MemoryBlock :=
  { d.blocks.head?.getD (MemoryBlock.construct 0 0) with
    base := 0
    addr := d.addr
    lines := d.blocks.flatMap MemoryBlock.lines }

theorem joined_fields (hx : d.blocks.head? = some b) :
    d.joined.cs = b.cs ∧ d.joined.we = b.we ∧ d.joined.clk = b.clk ∧ d.joined.feed = b.feed := by
  simp [joined, hx]

/-- R66, R191: the blocks of a laid out driver are the pieces of one block. -/
theorem Laid.isSplitOf (h : d.Laid) : d.IsSplitOf d.joined where
  base := rfl
  wf := h.1
  addr := rfl
  shares := by
    obtain ⟨-, huniform, -⟩ := h
    intro x hx
    obtain ⟨y, hy⟩ : ∃ y, d.blocks.head? = some y := ⟨_, List.head?_eq_some_head (List.ne_nil_of_mem hx)⟩
    obtain ⟨hcs, hwe, hclk, hfeed⟩ := joined_fields hy
    obtain ⟨-, hagree⟩ := huniform y (List.mem_of_head? hy)
    obtain ⟨hxcs, hxwe, hxclk, hxfeed⟩ := hagree x hx
    obtain ⟨haddr, -⟩ := huniform x hx
    exact ⟨hxcs.trans hcs.symm, hxwe.trans hwe.symm, hxclk.trans hclk.symm, haddr, hxfeed.trans hfeed.symm⟩
  lines := rfl

/-- R38, R39, R66, R191: the pieces of one block are laid out. -/
theorem IsSplitOf.laid (h : d.IsSplitOf b) (hwidth : d.addressWidth = ceilLog2 (totalLines d.sizes)) : d.Laid := by
  refine ⟨h.wf, fun x hx => ⟨(h.shares x hx).addr.trans h.addr, fun y hy => ?_⟩, hwidth⟩
  have hyx := (h.shares y hy).trans (h.shares x hx).symm
  exact ⟨hyx.cs, hyx.we, hyx.clk, hyx.feed⟩

theorem ClockLow.joined_clk (h : d.ClockLow) : d.joined.clk = false := by
  cases hx : d.blocks.head? with
  | none => simp [joined, hx, MemoryBlock.construct]
  | some x =>
    obtain ⟨-, -, hclk, -⟩ := joined_fields hx
    rw [hclk, h x (List.mem_of_head? hx)]

end

end Driver

end Sys2Proof.Machine
end

section
/-! SUPPORT. What every operation keeps of the two drivers (10_state.md R38, R39, 44_memory_driver.md R190, R191, R200, R201,
45_memory_controller.md R214): the blocks stay the pieces of one block, which answers as the driver does. -/

namespace Sys2Proof.Machine

/-! ## The layout of the drivers -/

section
variable {i : Instr} {s t : State} {b : MemoryBlock} {level : Bit} {k k' : Controller}

/-- R191, R196: every operation of a driver keeps its blocks the pieces of one block. -/
theorem exec_drv_isSplitOf (h : exec i s = .next t) (hs : s.drv.IsSplitOf b) : ∃ b', t.drv.IsSplitOf b' := by
  cases i with
  | drvSetChipSelect l => cases h; exact ⟨_, hs.setChipSelect l⟩
  | drvSetWriteEnable l => cases h; exact ⟨_, hs.setWriteEnable l⟩
  | drvSetClock l => cases h; exact ⟨_, hs.setClock l⟩
  | drvSetAddress a => cases h; exact ⟨_, hs.setAddress a⟩
  | drvSetFeed w => cases h; exact ⟨_, hs.setFeed w⟩
  | drvReadWord =>
    obtain ⟨⟨w, d⟩, hread, rfl⟩ := orRaise_eq_next h
    obtain ⟨-, b', -, hsplit⟩ := hs.of_readWord hread
    exact ⟨b', hsplit⟩
  | drvDetermineBlockIndex a =>
    obtain ⟨_, -, rfl⟩ := orRaise_eq_next h
    exact ⟨b, hs⟩
  | drvAddressWidth => cases h; exact ⟨b, hs⟩
  | _ =>
    rw [exec_drv_of_kind_ne h nofun]
    exact ⟨b, hs⟩

/-- R214: the controller's clock works on its driver by setters and a read. -/
theorem Controller.setClock_isSplitOf (h : k.setClock level = .ok k') (hk : k.driver.IsSplitOf b) :
    ∃ b', k'.driver.IsSplitOf b' := by
  obtain ⟨-, rfl⟩ | ⟨-, -, w, d', hread, rfl⟩ | ⟨-, -, rfl⟩ := setClock_eq_ok h
  · exact ⟨b, hk⟩
  · obtain ⟨-, b', -, hsplit⟩ := (hk.applyRequest _ true).of_readWord hread
    exact ⟨b', hsplit⟩
  · exact ⟨_, hk.applyRequest _ false⟩

/-- R38, R39: a laid out driver stays so where its blocks stay the pieces of one block and its constants stay. -/
theorem Driver.Laid.of_becomes {A W : Nat → Prop} {d d' : Driver} (hd : d.Laid) (hsplit : ∃ b, d'.IsSplitOf b)
    (hblocks : List.Forall₂ (MemoryBlock.Becomes A W) d.blocks d'.blocks) (hwidth : d'.addressWidth = d.addressWidth) :
    d'.Laid := by
  obtain ⟨-, -, hd⟩ := hd
  obtain ⟨b, hsplit⟩ := hsplit
  refine hsplit.laid ?_
  have hsizes : d'.sizes = d.sizes := map_eq_of_forall₂ hblocks fun _ _ hb => hb.base_n.2
  rw [hwidth, hsizes, hd]

theorem Controller.setClock_laid (h : k.setClock level = .ok k') (hk : k.driver.Laid) : k'.driver.Laid := by
  obtain ⟨-, hwidth⟩ := setClock_constants h
  exact hk.of_becomes (setClock_isSplitOf h hk.isSplitOf) (setClock_becomes (A := AnyOperand) (W := AnyOperand) h trivial trivial)
    hwidth

theorem exec_drv_laid (h : exec i s = .next t) (hs : s.drv.Laid) : t.drv.Laid :=
  hs.of_becomes (exec_drv_isSplitOf h hs.isSplitOf) (exec_drv_becomes h (operandsIn_any i)) (exec_sameConstants h).drvWidth

theorem exec_ctl_laid (h : exec i s = .next t) (hs : s.ctl.driver.Laid) : t.ctl.driver.Laid := by
  cases i with
  | ctlSetClock level =>
    obtain ⟨k, hk, rfl⟩ := orRaise_eq_next h
    exact Controller.setClock_laid hk hs
  | ctlSetChipSelect | ctlSetWriteEnable | ctlSetAddress | ctlSetFeed | ctlReadResponse =>
    obtain ⟨_, -, rfl⟩ := onRecord_eq_next h
    exact hs
  | _ =>
    rw [exec_ctl_of_kind_ne h nofun]
    exact hs

end

/-- Settles O51: the blocks of either driver stay the pieces of one block, and its constants stay. -/
theorem stepKeepsDriversLaid : Obligations.StepKeepsDriversLaid :=
  fun _ _ => step_keeps (P := State.DriversLaid) (fun _ _ hu => hu)
    fun _ _ _ hu _ h => ⟨exec_drv_laid h hu.1, exec_ctl_laid h hu.2⟩

/-! ## The controller's clock level -/

section
variable {d d' : Driver} {w : Word} {level : Bit} {k k' : Controller}

/-- R214 step 2: a request leaves every block at the clock level. -/
theorem Driver.applyRequest_clk (q : QueueRecord) (level : Bit) (d : Driver) :
    ∀ b ∈ (d.applyRequest q level).blocks, b.clk = level := by
  rw [applyRequest_blocks]
  exact List.forall_mem_map.mpr fun b _ => by simp [MemoryBlock.applyRequest]

theorem Driver.readWord_clk (hd : ∀ b ∈ d.blocks, b.clk = level) (h : d.readWord = .ok (w, d')) :
    ∀ b ∈ d'.blocks, b.clk = level := by
  obtain ⟨k, x, x', -, hx, hread, rfl⟩ := exists_block_of_readWord h
  obtain ⟨_, _, _, rfl⟩ := MemoryBlock.exists_routers_of_readWord hread
  intro b hb
  obtain hb | rfl := List.mem_or_eq_of_mem_set hb
  · exact hd b hb
  · exact hd x (List.mem_of_getElem? hx)

/-- R214: the controller's clock brings its blocks to its own level. -/
theorem Controller.setClock_clk (hk : ∀ b ∈ k.driver.blocks, b.clk = k.clock) (h : k.setClock level = .ok k') :
    ∀ b ∈ k'.driver.blocks, b.clk = k'.clock := by
  obtain ⟨-, rfl⟩ | ⟨-, -, w, d', hread, rfl⟩ | ⟨-, -, rfl⟩ := setClock_eq_ok h
  · exact hk
  · exact Driver.readWord_clk (k.driver.applyRequest_clk _ true) hread
  · exact k.driver.applyRequest_clk _ false

theorem exec_busClocked {i : Instr} {s t : State} (hs : s.BusClocked) (h : exec i s = .next t) : t.BusClocked := by
  cases i with
  | ctlSetClock level =>
    obtain ⟨k, hk, rfl⟩ := orRaise_eq_next h
    exact Controller.setClock_clk hs hk
  | ctlSetChipSelect | ctlSetWriteEnable | ctlSetAddress | ctlSetFeed | ctlReadResponse =>
    obtain ⟨_, -, rfl⟩ := onRecord_eq_next h
    exact hs
  | _ =>
    rw [State.BusClocked, exec_ctl_of_kind_ne h nofun]
    exact hs

end

/-- Settles O52: the controller's clock operation sets both levels, and no other operation reaches either. -/
theorem stepKeepsBusClocked : Obligations.StepKeepsBusClocked :=
  fun _ _ => step_keeps (P := State.BusClocked) (fun _ _ hu => hu) fun _ _ _ hu _ h => exec_busClocked hu h

/-! ## The decode and the selection -/

section
variable {b : MemoryBlock} {a k : Nat} {s : State}

/-- R36: a block that holds the address selects the line at that address, where its range has one. -/
theorem MemoryBlock.sel_iff_of_addr (haddr : b.addr = a) :
    (b.sel = some (a - b.base) ↔ b.base ≤ a ∧ a < b.base + b.lines.length) ∧
    (b.sel = none ↔ ¬(b.base ≤ a ∧ a < b.base + b.lines.length)) := by
  rw [sel_eq_some_iff, sel_eq_none_iff, haddr]
  omega

/-- R194: after `set_address` every block holds the address. -/
theorem Driver.setAddress_blocks_addr (a : Nat) (d : Driver) : ∀ b ∈ (d.setAddress a).blocks, b.addr = a :=
  List.forall_mem_map.mpr fun b _ => b.setAddress_addr a

theorem Driver.setAddress_sizes (a : Nat) (d : Driver) : (d.setAddress a).sizes = d.sizes := by
  simp [sizes, setAddress, fanOut, Function.comp_def]

theorem exec_drvDetermineBlockIndex_eq_fault_iff :
    exec (.drvDetermineBlockIndex a) s = .fault (.addressOutOfRange a) ↔ owningBlock s.drv.sizes a = none := by
  rw [exec_drvDetermineBlockIndex, Driver.determineBlockIndex]
  cases owningBlock s.drv.sizes a <;> simp

end

/-- Settles O32: after the fan-out every block holds the address, so it selects a line where its range, which the decode
answers by, holds the address. -/
theorem decodeAndSelectionAgree : Obligations.DecodeAndSelectionAgree := by
  intro s t a hlaid h
  cases h
  obtain ⟨hwf, -⟩ := hlaid
  have hadd := s.drv.setAddress_blocks_addr a
  have howning : ∀ k, owningBlock s.drv.sizes a = some k ↔
      ∃ b, (s.drv.setAddress a).blocks[k]? = some b ∧ b.base ≤ a ∧ a < b.base + b.lines.length := fun k => by
    rw [← s.drv.setAddress_sizes a]
    exact Driver.owningBlock_eq_some_iff_of_wf ((s.drv.setAddress_wf a).trans hwf)
  refine ⟨fun k b hb => ?block, ?fault⟩
  case block =>
    change (s.drv.setAddress a).blocks[k]? = some b at hb
    obtain ⟨hsome, hnone⟩ := MemoryBlock.sel_iff_of_addr (hadd b (List.mem_of_getElem? hb))
    have hdecode : exec (.drvDetermineBlockIndex a) s = .next { s with returned := s.returned ++ [.nat k] } ↔
        b.base ≤ a ∧ a < b.base + b.lines.length := by
      rw [exec_drvDetermineBlockIndex_eq_next_iff, howning, hb]
      simp
    exact ⟨hsome, hsome.trans hdecode.symm, hnone.trans (not_congr hdecode).symm⟩
  case fault =>
    rw [exec_drvDetermineBlockIndex_eq_fault_iff, Option.eq_none_iff_forall_ne_some]
    constructor
    case mp =>
      intro hnone b hb
      obtain ⟨-, hsel⟩ := MemoryBlock.sel_iff_of_addr (hadd b hb)
      obtain ⟨k, hk⟩ := List.mem_iff_getElem?.mp hb
      exact hsel.mpr fun hrange => hnone k ((howning k).mpr ⟨b, hk, hrange⟩)
    case mpr =>
      intro hnone k hk
      obtain ⟨b, hb, hrange⟩ := (howning k).mp hk
      have hmem := List.mem_of_getElem? hb
      obtain ⟨-, hsel⟩ := MemoryBlock.sel_iff_of_addr (hadd b hmem)
      exact hsel.mp (hnone b hmem) hrange

end Sys2Proof.Machine
end

section
/-! SUPPORT. Construction (10_state.md R44, R45, 44_memory_driver.md R190), and a driver beside one block as large as all of its own
(R201): the two stay together operation by operation. -/

namespace Sys2Proof.Machine

/-! ## The blocks of a constructed driver -/

section
variable {base k : Nat} {sizes : List Nat} {b : MemoryBlock}

/-- R44, R190: every block of a constructed driver is a constructed block of one of the sizes. -/
theorem exists_of_mem_constructBlocks (h : b ∈ constructBlocks base sizes) :
    ∃ base', ∃ n ∈ sizes, b = MemoryBlock.construct base' n := by
  induction sizes generalizing base with
  | nil => cases h
  | cons n rest ih =>
    obtain rfl | h := List.mem_cons.mp h
    · exact ⟨base, n, List.mem_cons_self, rfl⟩
    · obtain ⟨base', m, hm, hb⟩ := ih h
      exact ⟨base', m, List.mem_cons_of_mem _ hm, hb⟩

theorem MemoryBlock.construct_n (base n : Nat) : (MemoryBlock.construct base n).n = n := List.length_replicate

theorem map_n_constructBlocks (base : Nat) (sizes : List Nat) : (constructBlocks base sizes).map MemoryBlock.n = sizes := by
  induction sizes generalizing base with
  | nil => rfl
  | cons n rest ih => rw [constructBlocks, List.map_cons, ih, MemoryBlock.construct_n]

theorem Driver.construct_sizes (sizes : List Nat) : (Driver.construct sizes).sizes = sizes := map_n_constructBlocks 0 sizes

theorem flatMap_lines_constructBlocks (base : Nat) (sizes : List Nat) :
    (constructBlocks base sizes).flatMap MemoryBlock.lines = List.replicate (totalLines sizes) RegisterCell.construct := by
  induction sizes generalizing base with
  | nil => rfl
  | cons n rest ih =>
    rw [constructBlocks, List.flatMap_cons, ih, totalLines, totalLines, List.sum_cons]
    exact List.replicate_append_replicate

/-- R201: a constructed driver is made of the pieces of one block as large as all of its own. -/
theorem Driver.construct_isSplitOf (sizes : List Nat) :
    (Driver.construct sizes).IsSplitOf (MemoryBlock.construct 0 (totalLines sizes)) where
  base := rfl
  wf := construct_wf sizes
  addr := rfl
  shares := by
    intro x hx
    obtain ⟨_, _, -, rfl⟩ := exists_of_mem_constructBlocks hx
    constructor <;> rfl
  lines := (flatMap_lines_constructBlocks 0 sizes).symm

theorem Driver.construct_laid (sizes : List Nat) : (Driver.construct sizes).Laid :=
  (construct_isSplitOf sizes).laid (by rw [construct_sizes]; rfl)

end

/-! ## A driver beside its flat memory -/

/-- R201: the driver of `s` is made of the pieces of the block of `u`, and the same values have been returned. -/
structure FlatTogether (s u : State) : Prop where
  split : s.drv.IsSplitOf u.blk
  returned : u.returned = s.returned

section
variable {s t u : State} {i j : Instr} {drvOps blkOps : List Instr}

theorem exec_drv_sizes (h : exec i s = .next t) : t.drv.sizes = s.drv.sizes :=
  map_eq_of_forall₂ (exec_drv_becomes h (operandsIn_any i)) fun _ _ hb => hb.base_n.2

/-- R201: an operation of the driver and the same operation of the block keep the two together, but for a read beyond the last
line, where the driver faults. -/
theorem exec_flatTogether (hij : flatMemoryOp i = some j) (h : FlatTogether s u) :
    (∃ t v, exec i s = .next t ∧ exec j u = .next v ∧ FlatTogether t v) ∨
    i = .drvReadWord ∧ totalLines s.drv.sizes ≤ s.drv.addr ∧ exec i s = .fault (.addressOutOfRange s.drv.addr) := by
  obtain ⟨hsplit, hreturned⟩ := h
  cases i with
  | drvSetChipSelect l => cases hij; exact .inl ⟨_, _, rfl, rfl, hsplit.setChipSelect l, hreturned⟩
  | drvSetWriteEnable l => cases hij; exact .inl ⟨_, _, rfl, rfl, hsplit.setWriteEnable l, hreturned⟩
  | drvSetAddress a => cases hij; exact .inl ⟨_, _, rfl, rfl, hsplit.setAddress a, hreturned⟩
  | drvSetClock l => cases hij; exact .inl ⟨_, _, rfl, rfl, hsplit.setClock l, hreturned⟩
  | drvSetFeed w => cases hij; exact .inl ⟨_, _, rfl, rfl, hsplit.setFeed w, hreturned⟩
  | drvReadWord =>
    cases hij
    rcases lt_or_ge s.drv.addr (totalLines s.drv.sizes) with ha | ha
    · obtain ⟨w, d', b', hd, hb, hsplit'⟩ := hsplit.readWord ha
      refine .inl ⟨_, _, by rw [exec_drvReadWord, hd, orRaise_ok], by rw [exec_blkReadWord, hb, orRaise_ok], hsplit', ?_⟩
      exact congrArg (· ++ [.word w]) hreturned
    · exact .inr ⟨rfl, ha, by rw [exec_drvReadWord, Driver.readWord_of_le ha, orRaise_error]⟩
  | _ => cases hij

/-- R201: the two stay together to the end of any sequence, or up to a read beyond the last line. -/
theorem execAll_flatTogether (hops : List.Forall₂ (fun i j => flatMemoryOp i = some j) drvOps blkOps)
    (h : FlatTogether s u) :
    (∃ t v, execAll drvOps s = .next t ∧ execAll blkOps u = .next v ∧ FlatTogether t v) ∨
    ∃ n t v, drvOps[n]? = some .drvReadWord ∧ execAll (drvOps.take n) s = .next t ∧ execAll (blkOps.take n) u = .next v ∧
      FlatTogether t v ∧ t.drv.sizes = s.drv.sizes ∧ totalLines t.drv.sizes ≤ t.drv.addr ∧
      exec .drvReadWord t = .fault (.addressOutOfRange t.drv.addr) ∧
      execAll drvOps s = .fault (.addressOutOfRange t.drv.addr) := by
  induction hops generalizing s u with
  | nil => exact .inl ⟨s, u, rfl, rfl, h⟩
  | @cons i j drvRest blkRest hij _ ih =>
    obtain ⟨s', u', hs', hu', hnext⟩ | ⟨rfl, ha, hfault⟩ := exec_flatTogether hij h
    case inr => exact .inr ⟨0, s, u, rfl, rfl, rfl, h, rfl, ha, hfault, execAll_cons_of_fault hfault⟩
    rw [execAll_cons_of_next hs', execAll_cons_of_next hu', ← exec_drv_sizes hs']
    obtain hdone | ⟨n, t, v, hn, ht, hv, hbeyond⟩ := ih hnext
    · exact .inl hdone
    · refine .inr ⟨n + 1, t, v, hn, ?_, ?_, hbeyond⟩
      · rw [List.take_succ_cons, execAll_cons_of_next hs', ht]
      · rw [List.take_succ_cons, execAll_cons_of_next hu', hv]

end

/-- Settles O33: the two are together after construction; where the driver faults, the block selects no line. -/
theorem driverIsOneFlatMemory : Obligations.DriverIsOneFlatMemory := by
  intro c drvOps blkOps hbase hlines hsame
  have hops : List.Forall₂ (fun i j => flatMemoryOp i = some j) drvOps blkOps := by
    have hmap : List.Forall₂ (· = ·) (drvOps.map flatMemoryOp) (blkOps.map some) := by
      rw [List.forall₂_eq_eq_eq, hsame]
    rwa [List.forall₂_map_left_iff, List.forall₂_map_right_iff] at hmap
  have htogether : FlatTogether (State.construct c) (State.construct c) := by
    refine ⟨?_, rfl⟩
    change (Driver.construct c.drvBlocks).IsSplitOf (MemoryBlock.construct c.blkBase c.blkLines)
    rw [hbase, hlines]
    exact Driver.construct_isSplitOf c.drvBlocks
  obtain ⟨t, v, ht, hv, hnext⟩ | ⟨n, t, v, hn, ht, hv, hnext, hsizes, ha, hread, hfault⟩ := execAll_flatTogether hops htogether
  · rw [ht]
    refine ⟨fun t' h => ?_, nofun⟩
    obtain rfl := Host.Outcome.next.inj h
    exact ⟨v, hv, hnext.returned⟩
  · rw [hfault]
    refine ⟨fun _ h => by simp at h, fun f h => ?_⟩
    obtain rfl := Host.Outcome.fault.inj h
    have htotal : totalLines c.drvBlocks ≤ t.drv.addr := by
      rwa [hsizes, State.construct, Driver.construct_sizes] at ha
    have haddr := hnext.split.addr
    have hsel : v.blk.sel = none := by
      refine MemoryBlock.sel_eq_none_iff.mpr (.inr ?_)
      rw [hnext.split.base, Nat.zero_add, haddr]
      exact hnext.split.n.trans_le ha
    refine ⟨n, _, t, v, rfl, htotal, hn, ht, rfl, hread, hv, hnext.returned, fun hcs => ?_, fun hcs => ?_⟩
    · rw [exec_blkReadWord, MemoryBlock.readWord_of_sel_none hcs hsel, orRaise_error, haddr]
    · rw [exec_blkReadWord, MemoryBlock.readWord_of_not_cs hcs, orRaise_ok]
      exact ⟨_, rfl, rfl⟩

end Sys2Proof.Machine
end

section
/-! SUPPORT. The driver's write and read sequences and the controller's service (20_memory.md R76 to R80, 45_memory_controller.md
R214, R217, R218, R221), each read off the one block whose pieces the driver's blocks are; and the faults (60_exceptions.md R231
to R235). -/

namespace Sys2Proof.Machine

/-! ## The words after a sequence of setters -/

namespace MemoryBlock

section
variable {b : MemoryBlock} {a : Nat} {w : Word}

/-- R77: a block after the write sequence. -/
def afterWrite (a : Nat) (w : Word) (b : MemoryBlock) : MemoryBlock :=
  (((((b.setWriteEnable true).setAddress a).setFeed w).setClock true).setClock false).setWriteEnable false

theorem dataAt_afterWrite (hlow : b.clk = false) (a' : Nat) :
    (b.afterWrite a w).dataAt a' = (b.dataAt a').map fun old => if a' = a then w else old := by
  rw [afterWrite, dataAt_setWriteEnable_of_low _ (by simp), dataAt_setClock_false,
    dataAt_setAddress_setFeed_setClock a (by simpa using hlow), dataAt_setWriteEnable_of_low _ hlow]
  simp

/-- R79, R214: what a request applied with a rise of the clock stores. -/
theorem dataAt_applyRequest_true {q : QueueRecord} (hlow : b.clk = false) (a : Nat) :
    (b.applyRequest q true).dataAt a = (b.dataAt a).map fun old => if a = q.addr ∧ q.we = true then q.feed else old := by
  rw [applyRequest, dataAt_setAddress_setFeed_setClock q.addr (by simpa using hlow),
    dataAt_setWriteEnable_of_low _ (by simpa using hlow), dataAt_setChipSelect_of_low _ hlow]
  simp

@[simp] theorem applyRequest_cs (q : QueueRecord) (level : Bit) (b : MemoryBlock) : (b.applyRequest q level).cs = q.cs := by
  simp [applyRequest]

theorem applyRequest_gated (b : MemoryBlock) (q : QueueRecord) (level : Bit) : (b.applyRequest q level).Gated :=
  broadcastControl_gated _

/-- R76: a block under a read's two setters. -/
def afterSelect (a : Nat) (b : MemoryBlock) : MemoryBlock := (b.setChipSelect true).setAddress a

@[simp] theorem afterSelect_cs (a : Nat) (b : MemoryBlock) : (b.afterSelect a).cs = true := by simp [afterSelect]
@[simp] theorem afterSelect_addr (a : Nat) (b : MemoryBlock) : (b.afterSelect a).addr = a := by simp [afterSelect]

theorem afterSelect_gated (b : MemoryBlock) (a : Nat) : (b.afterSelect a).Gated := broadcastControl_gated _

theorem dataAt_afterSelect (hlow : b.clk = false) (a' : Nat) : (b.afterSelect a).dataAt a' = b.dataAt a' := by
  rw [afterSelect, dataAt_setAddress_of_low a (by simpa using hlow), dataAt_setChipSelect_of_low _ hlow]

end

end MemoryBlock

namespace Driver

/-- R77: a driver after the write sequence. -/
def afterWrite (a : Nat) (w : Word) (d : Driver) : Driver :=
  (((((d.setWriteEnable true).setAddress a).setFeed w).setClock true).setClock false).setWriteEnable false

/-- R76: a driver under a read's two setters. -/
def afterSelect (a : Nat) (d : Driver) : Driver := (d.setChipSelect true).setAddress a

section
variable {d : Driver} {b : MemoryBlock} {a : Nat} {w : Word}

theorem IsSplitOf.afterWrite (h : d.IsSplitOf b) : (d.afterWrite a w).IsSplitOf (b.afterWrite a w) :=
  (((((h.setWriteEnable true).setAddress a).setFeed w).setClock true).setClock false).setWriteEnable false

theorem IsSplitOf.afterSelect (h : d.IsSplitOf b) : (d.afterSelect a).IsSplitOf (b.afterSelect a) :=
  (h.setChipSelect true).setAddress a

theorem afterSelect_sizes : (d.afterSelect a).sizes = d.sizes := by
  simp [sizes, afterSelect, setAddress, setChipSelect, fanOut, Function.comp_def]

theorem applyRequest_sizes (q : QueueRecord) (level : Bit) (d : Driver) : (d.applyRequest q level).sizes = d.sizes :=
  map_eq_of_forall₂ (d.becomes_applyRequest (A := AnyOperand) (W := AnyOperand) level trivial trivial)
    fun _ _ hb => hb.base_n.2

theorem IsSplitOf.dataAt_eq_none (h : d.IsSplitOf b) (ha : totalLines d.sizes ≤ a) : d.dataAt a = none := by
  rw [h.dataAt, MemoryBlock.dataAt_eq_none]
  rwa [h.base, Nat.zero_add, h.n]

/-- R77, R80: a word stored in the one block at an address is stored in the driver, where the address has a line. -/
theorem IsSplitOf.dataAt_store {p : Prop} [Decidable p] (h : d.IsSplitOf b) (a' : Nat) :
    ((b.dataAt a').map fun old => if a' = a ∧ p then w else old) =
      if a' = a ∧ p ∧ a < totalLines d.sizes then some w else d.dataAt a' := by
  rw [← h.dataAt]
  by_cases hstore : a' = a ∧ p
  · obtain ⟨rfl, hp⟩ := hstore
    rcases lt_or_ge a' (totalLines d.sizes) with ha | ha
    · obtain ⟨old, hold⟩ := h.exists_dataAt ha
      simp [hp, ha, hold]
    · simp [h.dataAt_eq_none ha, Nat.not_lt.mpr ha]
  · rw [if_neg fun ⟨ha, hp, _⟩ => hstore ⟨ha, hp⟩]
    simp only [if_neg hstore, Option.map_id']

/-- R76, R196: where the one block is gated, the driver reads the word at its address, or 0 while deselected. -/
theorem IsSplitOf.readWord_of_dataAt (h : d.IsSplitOf b) (hg : b.Gated) (ha : d.addr < totalLines d.sizes)
    (hw : b.dataAt d.addr = some w) : ∃ d', d.readWord = .ok (if b.cs then w else 0, d') ∧ d'.IsSplitOf b := by
  obtain ⟨w', d', b', hd, hb, hsplit⟩ := h.readWord ha
  obtain ⟨b'', hb''⟩ := MemoryBlock.readWord_of_dataAt hg (by rwa [h.addr])
  rw [hb''] at hb
  cases hb
  exact ⟨d', hd, hsplit.of_hideRouters (MemoryBlock.readWord_hideRouters hb'').symm rfl rfl⟩

end

end Driver

/-! ## The sequences -/

section
variable (s : State) (d : Driver)

theorem exec_drvSetChipSelect_putDrv (l : Bit) :
    exec (.drvSetChipSelect l) (s.putDrv d) = .next (s.putDrv (d.setChipSelect l)) := rfl

theorem exec_drvSetWriteEnable_putDrv (l : Bit) :
    exec (.drvSetWriteEnable l) (s.putDrv d) = .next (s.putDrv (d.setWriteEnable l)) := rfl

theorem exec_drvSetClock_putDrv (l : Bit) :
    exec (.drvSetClock l) (s.putDrv d) = .next (s.putDrv (d.setClock l)) := rfl

theorem exec_drvSetAddress_putDrv (a : Nat) :
    exec (.drvSetAddress a) (s.putDrv d) = .next (s.putDrv (d.setAddress a)) := rfl

theorem exec_drvSetFeed_putDrv (w : Word) :
    exec (.drvSetFeed w) (s.putDrv d) = .next (s.putDrv (d.setFeed w)) := rfl

theorem exec_drvReadWord_putDrv :
    exec .drvReadWord (s.putDrv d) = orRaise d.readWord fun r => (s.putDrv r.2).returning (.word r.1) := rfl

/-- R77: the write sequence is six setters. -/
theorem execAll_drvWrite (a : Nat) (w : Word) :
    execAll (drvWrite a w) (s.putDrv d) = .next (s.putDrv (d.afterWrite a w)) := by
  simp only [drvWrite, execAll, exec_drvSetWriteEnable_putDrv, exec_drvSetAddress_putDrv, exec_drvSetFeed_putDrv,
    exec_drvSetClock_putDrv, Driver.afterWrite]

/-- R76: the read sequence is two setters and a read. -/
theorem execAll_drvLoad (a : Nat) :
    execAll (drvLoad a) (s.putDrv d) = execAll [.drvReadWord] (s.putDrv (d.afterSelect a)) := by
  simp only [drvLoad, execAll, exec_drvSetChipSelect_putDrv, exec_drvSetAddress_putDrv, Driver.afterSelect]

end

/-- Settles O34: the one block stores the word at the address, where it has a line. -/
theorem driverWriteStoresOneLine : Obligations.DriverWriteStoresOneLine := by
  intro s a w hlaid hlow
  have hsplit := hlaid.isSplitOf
  refine ⟨s.drv.afterWrite a w, execAll_drvWrite s s.drv a w, fun a' => ?_⟩
  rw [hsplit.afterWrite.dataAt, MemoryBlock.dataAt_afterWrite hlow.joined_clk]
  simpa using hsplit.dataAt_store (a := a) (w := w) (p := True) a'

/-- Settles O35: the one block under the two setters is gated, chip-selected and at the address, with its words as they were. -/
theorem driverLoadReturnsTheLine : Obligations.DriverLoadReturnsTheLine := by
  intro s a hlaid hlow
  have hsplit := hlaid.isSplitOf
  have hselect := hsplit.afterSelect (a := a)
  have hdata : ∀ a', (s.drv.joined.afterSelect a).dataAt a' = s.drv.dataAt a' := fun a' => by
    rw [MemoryBlock.dataAt_afterSelect hlow.joined_clk, hsplit.dataAt]
  have hload : execAll (drvLoad a) s = execAll [.drvReadWord] (s.putDrv (s.drv.afterSelect a)) := execAll_drvLoad s s.drv a
  rw [hload, execAll, exec_drvReadWord_putDrv, ← Driver.afterSelect_sizes (a := a)]
  refine ⟨fun ha => ?inRange, fun ha => ?beyond⟩
  case inRange =>
    obtain ⟨w, hw⟩ := hselect.exists_dataAt ha
    rw [hselect.dataAt] at hw
    obtain ⟨d, hread, hd⟩ := hselect.readWord_of_dataAt (s.drv.joined.afterSelect_gated a) ha hw
    rw [hread, MemoryBlock.afterSelect_cs, if_pos rfl, orRaise_ok]
    refine ⟨d, w, (hdata a).symm.trans hw, rfl, fun a' => (hd.dataAt a').trans (hdata a'), fun x hx => ?_⟩
    have hshares := hd.shares x hx
    exact ⟨hshares.cs.trans (MemoryBlock.afterSelect_cs ..), hshares.addr.trans (MemoryBlock.afterSelect_addr ..)⟩
  case beyond =>
    rw [Driver.readWord_of_le ha, orRaise_error]
    rfl

/-! ## The controller's service -/

/-- Settles O39: the one block under the request is gated, with the word stored where the request is write-enabled. -/
theorem risingServiceStoresThenCaptures : Obligations.RisingServiceStoresThenCaptures := by
  intro s q hlaid hlow hclock hq
  have hsplit := hlaid.isSplitOf
  have hserved := hsplit.applyRequest q true
  have hrise : true ≠ s.ctl.clock := by simp [hclock]
  have hdata : ∀ a, (s.ctl.driver.joined.applyRequest q true).dataAt a =
      if a = q.addr ∧ q.we = true ∧ q.addr < totalLines s.ctl.driver.sizes then some q.feed else s.ctl.driver.dataAt a :=
    fun a => by rw [MemoryBlock.dataAt_applyRequest_true hlow.joined_clk, hsplit.dataAt_store]
  have hsizes := s.ctl.driver.applyRequest_sizes q true
  rw [exec_ctlSetClock]
  refine ⟨fun ha => ?inRange, fun ha => ?beyond⟩
  case inRange =>
    obtain ⟨w, hw⟩ := hsplit.exists_dataAt ha
    have hcaptured : (s.ctl.driver.joined.applyRequest q true).dataAt q.addr = some (if q.we then q.feed else w) := by
      rw [hdata, hw]
      cases hwe : q.we <;> simp [ha]
    obtain ⟨d, hread, hd⟩ := hserved.readWord_of_dataAt (s.ctl.driver.joined.applyRequest_gated q true) (hsizes ▸ ha) hcaptured
    rw [MemoryBlock.applyRequest_cs] at hread
    rw [Controller.setClock_of_rise hq hrise hread, orRaise_ok]
    exact ⟨d, w, hw, rfl, fun a => by rw [hd.dataAt, hdata]; simp [ha]⟩
  case beyond =>
    rw [Controller.setClock_of_rise_fault hq hrise (Driver.readWord_of_le (hsizes ▸ ha)), orRaise_error]
    rfl

/-! ## Rounds of service -/

/-- R38, R40, R66: the clock is low, a core has the bus, and every request is for an address of the memory. -/
structure Controller.Ready (k : Controller) : Prop where
  laid : k.driver.Laid
  low : k.clock = false
  focus_lt : k.focus < k.queue.length
  requests : ∀ q ∈ k.queue, q.addr < totalLines k.driver.sizes

section
variable {k k' : Controller} {level : Bit}

theorem Controller.setClock_sizes (h : k.setClock level = .ok k') : k'.driver.sizes = k.driver.sizes :=
  map_eq_of_forall₂ (setClock_becomes (A := AnyOperand) (W := AnyOperand) h trivial trivial) fun _ _ hb => hb.base_n.2

/-- R214, R217: one full clock pulse completes, hands the bus on, and leaves the controller ready. -/
theorem Controller.Ready.pulse (h : k.Ready) : ∃ k' k'', k.setClock true = .ok k' ∧ k'.setClock false = .ok k'' ∧ k''.Ready ∧
    k''.focus = (k.focus + 1) % k.queue.length ∧ k''.queue.length = k.queue.length := by
  obtain ⟨hlaid, hlow, hfocus, hrequests⟩ := h
  obtain ⟨q, hq⟩ : ∃ q, k.queue[k.focus]? = some q := ⟨_, List.getElem?_eq_getElem hfocus⟩
  have hrise : true ≠ k.clock := by simp [hlow]
  have haddr : q.addr < totalLines (k.driver.applyRequest q true).sizes := by
    rw [Driver.applyRequest_sizes]
    exact hrequests q (List.mem_of_getElem? hq)
  obtain ⟨w, d, -, hread, -⟩ := (hlaid.isSplitOf.applyRequest q true).readWord haddr
  have hup := setClock_of_rise hq hrise hread
  have hq' : (k.queue.set k.focus { q with response := w })[k.focus]? = some { q with response := w } :=
    List.getElem?_set_self hfocus
  have hdown := setClock_of_fall (k := ⟨k.focus, true, k.queue.set k.focus { q with response := w }, d⟩) hq' (by simp)
  refine ⟨_, _, hup, hdown, ⟨setClock_laid hdown (setClock_laid hup hlaid), rfl, ?focus, ?requests⟩, ?_, List.length_set⟩
  case focus => exact Nat.mod_lt _ (Nat.zero_lt_of_lt (by simpa using hfocus))
  case requests =>
    rw [setClock_sizes hdown, setClock_sizes hup]
    intro x hx
    obtain hx | rfl := List.mem_or_eq_of_mem_set hx
    · exact hrequests x hx
    · exact hrequests q (List.mem_of_getElem? hq)
  · simp

end

theorem exec_ctlSetClock_of_ok {s : State} {level : Bit} {k : Controller} (h : s.ctl.setClock level = .ok k) :
    exec (.ctlSetClock level) s = .next (s.putCtl k) := by
  rw [exec_ctlSetClock, h, orRaise_ok]

/-- R218: any number of pulses from a ready controller. -/
theorem execAll_controllerPulses {s : State} (k : Nat) (h : s.ctl.Ready) :
    ∃ t, execAll (controllerPulses k) s = .next t ∧ t.ctl.clock = false ∧
      t.ctl.focus = (s.ctl.focus + k) % s.ctl.queue.length := by
  induction k generalizing s with
  | zero => exact ⟨s, rfl, h.low, (Nat.mod_eq_of_lt h.focus_lt).symm⟩
  | succ k ih =>
    obtain ⟨k', k'', hup, hdown, hready, hfocus, hlength⟩ := h.pulse
    have hpulse : execAll (pulse .ctl) s = .next ((s.putCtl k').putCtl k'') := by
      have hdown' : exec (.ctlSetClock false) (s.putCtl k') = .next ((s.putCtl k').putCtl k'') := exec_ctlSetClock_of_ok hdown
      rw [pulse, clockOf, execAll_cons_of_next (exec_ctlSetClock_of_ok hup), execAll_cons_of_next hdown']
      rfl
    obtain ⟨t, ht, hlow, hend⟩ := ih (s := (s.putCtl k').putCtl k'') hready
    refine ⟨t, ?_, hlow, ?_⟩
    · rw [controllerPulses, List.replicate_succ, List.flatten_cons, execAll_append_of_next hpulse]
      exact ht
    · rw [hend, State.putCtl_ctl, hfocus, hlength, Nat.mod_add_mod, Nat.add_assoc, Nat.add_comm 1 k]

/-- Settles O41: such a controller is ready, and every pulse leaves it so. -/
theorem roundRobinServesTheCoresInOrder : Obligations.RoundRobinServesTheCoresInOrder :=
  fun _ k hlaid hlow hfocus hrequests => execAll_controllerPulses k ⟨hlaid, hlow, hfocus, hrequests⟩

/-! ## The faults -/

section
variable {f : Fault}

/-- R141, R233: what answers below a bound and faults from it on. -/
theorem eq_error_iff_of_bound {α : Type} {r : Except Fault α} {v n : Nat} (hlt : v < n → ∃ x, r = .ok x)
    (hle : n ≤ v → r = .error (.selectorOutOfRange v)) : r = .error f ↔ n ≤ v ∧ f = .selectorOutOfRange v := by
  rcases lt_or_ge v n with hv | hv
  · obtain ⟨x, rfl⟩ := hlt hv
    simp [hv.not_ge]
  · simp [hle hv, hv, eq_comm]

theorem Multiplexer.setInputWord_eq_error_iff {m : Multiplexer} {j : Nat} {w : Word} :
    m.setInputWord j w = .error f ↔ m.inputs.length ≤ j ∧ f = .selectorOutOfRange j :=
  eq_error_iff_of_bound (fun h => ⟨_, setInputWord_of_lt h⟩) setInputWord_of_le

theorem Multiplexer.setSelector_eq_error_iff {m : Multiplexer} {v : Nat} :
    m.setSelector v = .error f ↔ m.inputs.length ≤ v ∧ f = .selectorOutOfRange v :=
  eq_error_iff_of_bound (fun h => ⟨_, setSelector_of_lt h⟩) setSelector_of_le

theorem Demultiplexer.setSelector_eq_error_iff {d : Demultiplexer Word} {v : Nat} :
    d.setSelector v = .error f ↔ d.n ≤ v ∧ f = .selectorOutOfRange v :=
  eq_error_iff_of_bound (fun h => ⟨_, setSelector_of_lt h⟩) setSelector_of_le

theorem Demultiplexer.read_eq_error_iff {d : Demultiplexer Word} {j : Nat} :
    d.read j = .error f ↔ d.n ≤ j ∧ f = .selectorOutOfRange j :=
  eq_error_iff_of_bound (fun h => ⟨_, read_of_lt h⟩) read_of_le

theorem MemoryBlock.readWord_eq_error_iff {b : MemoryBlock} : b.readWord = .error f ↔
    b.cs = true ∧ (b.addr < b.base ∨ b.base + b.lines.length ≤ b.addr) ∧ f = .selectorOutOfRange b.addr := by
  rw [← sel_eq_none_iff]
  refine ⟨readWord_eq_error, ?_⟩
  rintro ⟨hcs, hsel, rfl⟩
  exact readWord_of_sel_none hcs hsel

theorem Driver.determineBlockIndex_eq_error_iff {d : Driver} {a : Nat} :
    d.determineBlockIndex a = .error f ↔ totalLines d.sizes ≤ a ∧ f = .addressOutOfRange a := by
  rw [determineBlockIndex, ← owningBlock_eq_none_iff]
  cases owningBlock d.sizes a <;> simp [eq_comm]

/-- R196, R234: a driver laid out faults beyond the last line alone; no block it asks does. -/
theorem Driver.IsSplitOf.readWord_eq_error_iff {d : Driver} {b : MemoryBlock} (h : d.IsSplitOf b) :
    d.readWord = .error f ↔ totalLines d.sizes ≤ d.addr ∧ f = .addressOutOfRange d.addr := by
  rcases lt_or_ge d.addr (totalLines d.sizes) with ha | ha
  · obtain ⟨w, d', -, hread, -⟩ := h.readWord ha
    simp [hread, ha.not_ge]
  · simp [readWord_of_le ha, ha, eq_comm]

/-- R214, R221, R234: the controller's clock faults on a genuine rise over a request beyond the last line alone. -/
theorem Controller.setClock_eq_error_iff {k : Controller} {level : Bit} {q : QueueRecord} {b : MemoryBlock}
    (h : k.driver.IsSplitOf b) (hq : k.queue[k.focus]? = some q) : k.setClock level = .error f ↔
      level = true ∧ k.clock = false ∧ totalLines k.driver.sizes ≤ q.addr ∧ f = .addressOutOfRange q.addr := by
  have hread := Driver.IsSplitOf.readWord_eq_error_iff (f := f) (h.applyRequest q true)
  rw [Driver.applyRequest_sizes, Driver.applyRequest_addr] at hread
  rw [← hread]
  constructor
  case mp =>
    intro hfault
    obtain ⟨hlevel, hlow, hf⟩ := setClock_eq_error hfault
    rw [focused_eq hq] at hf
    exact ⟨hlevel, hlow, hf⟩
  case mpr =>
    rintro ⟨rfl, hlow, hf⟩
    exact setClock_of_rise_fault hq (by simp [hlow]) hf

theorem orRaise_eq_fault_iff {α : Type} {r : Except Fault α} {go : α → State} :
    orRaise r go = .fault f ↔ r = .error f := by
  cases r <;> simp

end

/-- Settles O45: an operation that faults is one whose component answers with the fault, on the component's own condition. -/
theorem faultsAreExactlyTheTaxonomy : Obligations.FaultsAreExactlyTheTaxonomy := by
  intro i s f hdrv hctl hfocus
  cases i with
  | muxSetInputWord j w =>
    rw [exec_muxSetInputWord, orRaise_eq_fault_iff, Multiplexer.setInputWord_eq_error_iff]
    simp
  | muxSetSelector a =>
    rw [exec_muxSetSelector, orRaise_eq_fault_iff, Multiplexer.setSelector_eq_error_iff]
    simp
  | dmxSetSelector v =>
    change orRaise (s.dmx.setSelector v) s.putDmx = _ ↔ _
    rw [orRaise_eq_fault_iff, Demultiplexer.setSelector_eq_error_iff]
    simp
  | dmxRead j =>
    change orRaise (s.dmx.read j) (fun w => s.returning (.word w)) = _ ↔ _
    rw [orRaise_eq_fault_iff, Demultiplexer.read_eq_error_iff]
    simp
  | blkReadWord =>
    rw [exec_blkReadWord, orRaise_eq_fault_iff, MemoryBlock.readWord_eq_error_iff]
    simp
  | drvDetermineBlockIndex a =>
    rw [exec_drvDetermineBlockIndex, orRaise_eq_fault_iff, Driver.determineBlockIndex_eq_error_iff]
    simp
  | drvReadWord =>
    rw [exec_drvReadWord, orRaise_eq_fault_iff, Driver.IsSplitOf.readWord_eq_error_iff hdrv.isSplitOf]
    simp
  | ctlSetClock level =>
    have hq := List.getElem?_eq_getElem hfocus
    rw [exec_ctlSetClock, orRaise_eq_fault_iff, Controller.setClock_eq_error_iff hctl.isSplitOf hq]
    simp [hq]
  | ctlSetChipSelect | ctlSetWriteEnable | ctlSetAddress | ctlSetFeed | ctlReadResponse =>
    refine iff_of_false (onRecord_ne_fault s _ _ f) ?_
    simp
  | _ =>
    refine iff_of_false (fun h => by cases h) ?_
    simp

end Sys2Proof.Machine
end

section
/-! SUPPORT. Operations done twice (40_bistables.md R130, 20_memory.md R65), the controller's focus (45_memory_controller.md R217),
and the state after construction (10_state.md R44, R45). -/

namespace Sys2Proof.Machine

/-! ## A clock level asserted twice -/

section
variable (level : Bit)

theorem ClockedSetResetLatch.setClock_setClock (x : ClockedSetResetLatch) :
    (x.setClock level).setClock level = x.setClock level := by
  simp [setClock_eq, fires_self]

theorem SRFlipFlop.setClock_setClock (x : SRFlipFlop) : (x.setClock level).setClock level = x.setClock level := by
  simp [setClock_eq, fires_self]

theorem TFlipFlop.setClock_setClock (x : TFlipFlop) : (x.setClock level).setClock level = x.setClock level := by
  simp [setClock_eq, fires_self]

theorem RegisterCell.setClock_setClock (c : RegisterCell) : (c.setClock level).setClock level = c.setClock level := by
  cases hwe : c.we with
  | false => rw [setClock_of_not_we hwe, setClock_of_not_we hwe]
  | true => simp [setClock_eq, hwe]

theorem MemoryBlock.setClock_setClock (b : MemoryBlock) : (b.setClock level).setClock level = b.setClock level := by
  have hfield : ∀ x : MemoryBlock, x.clk = level → { x with clk := level } = x := by
    rintro x rfl
    rfl
  rw [setClock, hfield _ (setClock_clk b level)]
  exact broadcastControl_broadcastControl _

theorem Driver.setClock_setClock (d : Driver) : (d.setClock level).setClock level = d.setClock level := by
  simp [setClock, fanOut, MemoryBlock.setClock_setClock]

/-- R214: after its clock operation the controller stands at the level. -/
theorem Controller.setClock_clock {level : Bit} {k k' : Controller} (h : k.setClock level = .ok k') : k'.clock = level := by
  obtain ⟨rfl, rfl⟩ | ⟨rfl, -, w, d', -, rfl⟩ | ⟨rfl, -, rfl⟩ := setClock_eq_ok h <;> rfl

end

/-- Settles O14: each component's clock operation done twice is the operation done once. -/
theorem reassertedClockLevelChangesNothing : Obligations.ReassertedClockLevelChangesNothing := by
  intro k clock hclock s t level h
  cases k with
  | srl | mux | dmx => cases hclock
  | dff =>
    cases hclock
    cases h
    exact congrArg (fun x => (.next (s.putDff x) : Result State)) (s.dff.setClock_setClock level)
  | srff =>
    cases hclock
    cases h
    exact congrArg (fun x => (.next (s.putSrff x) : Result State)) (s.srff.setClock_setClock level)
  | tff =>
    cases hclock
    cases h
    exact congrArg (fun x => (.next (s.putTff x) : Result State)) (s.tff.setClock_setClock level)
  | cell =>
    cases hclock
    cases h
    exact congrArg (fun x => (.next (s.putCell x) : Result State)) (s.cell.setClock_setClock level)
  | blk =>
    cases hclock
    cases h
    exact congrArg (fun x => (.next (s.putBlk x) : Result State)) (s.blk.setClock_setClock level)
  | drv =>
    cases hclock
    cases h
    exact congrArg (fun x => (.next (s.putDrv x) : Result State)) (s.drv.setClock_setClock level)
  | ctl =>
    cases hclock
    obtain ⟨x, hx, rfl⟩ := orRaise_eq_next h
    obtain rfl := Controller.setClock_clock hx
    exact exec_ctlSetClock_of_ok (s := s.putCtl x) Controller.setClock_self

/-! ## The focus -/

/-- Settles O40: the clock operation by its three outcomes; no other operation reaches the focus or the clock. -/
theorem focusMovesOnlyOnFallingChanges : Obligations.FocusMovesOnlyOnFallingChanges := by
  intro i s t h
  cases i with
  | ctlSetClock level =>
    obtain ⟨k, hk, rfl⟩ := orRaise_eq_next h
    obtain ⟨rfl, rfl⟩ | ⟨rfl, hlow, w, d', -, rfl⟩ | ⟨rfl, hhigh, rfl⟩ := Controller.setClock_eq_ok hk
    · cases hclock : s.ctl.clock <;> simp [hclock]
    · simp
    · simp [hhigh, Controller.coreCount]
  | ctlSetChipSelect | ctlSetWriteEnable | ctlSetAddress | ctlSetFeed | ctlReadResponse =>
    obtain ⟨_, -, rfl⟩ := onRecord_eq_next h
    simp [Controller.putRecord]
  | _ =>
    rw [exec_ctl_of_kind_ne h nofun]
    simp

/-! ## Reads -/

section
variable {s t : State} {i : Instr} {v : Value} {b b' : MemoryBlock} {d d' : Driver} {w : Word}

/-- R65: a block's read repeated answers the same. -/
theorem MemoryBlock.readWord_readWord (h : b.readWord = .ok (w, b')) : ∃ b'', b'.readWord = .ok (w, b'') := by
  have hb := readWord_eq_ok h
  obtain ⟨d₁, d₂, m, rfl⟩ := exists_routers_of_readWord h
  obtain ⟨hcs, rfl, -⟩ | ⟨hcs, i, hsel, rfl, -⟩ := hb
  · exact ⟨_, readWord_of_not_cs hcs⟩
  · have hc := List.getElem?_eq_getElem (sel_lt hsel)
    rw [hc]
    exact ⟨_, readWord_of_sel_some hcs hsel hc⟩

/-- R65: a driver's read repeated answers the same. -/
theorem Driver.readWord_readWord (h : d.readWord = .ok (w, d')) : ∃ d'', d'.readWord = .ok (w, d'') := by
  have hsizes : d'.sizes = d.sizes :=
    map_eq_of_forall₂ (becomes_readWord (A := AnyOperand) (W := AnyOperand) (forall₂_becomes_refl _) h) fun _ _ hb => hb.base_n.2
  obtain ⟨k, x, x', hk, hx, hread, rfl⟩ := exists_block_of_readWord h
  obtain ⟨x'', hread'⟩ := MemoryBlock.readWord_readWord hread
  exact ⟨_, readWord_of_owningBlock (hsizes ▸ hk) (List.getElem?_set_self (List.getElem?_eq_some_iff.mp hx).1) hread'⟩

theorem Driver.readWord_hideRouters (h : d.readWord = .ok (w, d')) :
    d'.blocks.map MemoryBlock.hideRouters = d.blocks.map MemoryBlock.hideRouters := by
  obtain ⟨k, x, x', -, hx, hread, rfl⟩ := exists_block_of_readWord h
  exact map_hideRouters_set hx (MemoryBlock.readWord_hideRouters hread)

/-- R14, R65: what a read does, done in `s` and ending in `t`. -/
def ReadsOnce (i : Instr) (s t : State) : Prop :=
  t.observable = s.observable ∧ ∃ v, t.returned = s.returned ++ [v] ∧
    ∃ u, exec i t = .next u ∧ u.observable = s.observable ∧ u.returned = t.returned ++ [v]

theorem orRaise_of_ok {α : Type} {r : Except Fault α} {x : α} {go : α → State} (h : r = .ok x) :
    orRaise r go = .next (go x) := by
  rw [h, orRaise_ok]

/-- A read that only returns a value, and the same in the state after it. -/
theorem readsOnce_of_returning (h : exec i (s.returning v) = .next ((s.returning v).returning v)) :
    ReadsOnce i s (s.returning v) :=
  ⟨rfl, v, rfl, _, h, rfl, rfl⟩

theorem readsOnce_blkReadWord (h : exec .blkReadWord s = .next t) : ReadsOnce .blkReadWord s t := by
  obtain ⟨⟨w, b⟩, hread, rfl⟩ := orRaise_eq_next h
  obtain ⟨b', hread'⟩ := MemoryBlock.readWord_readWord hread
  have hobs : ∀ x : MemoryBlock, x.hideRouters = s.blk.hideRouters → (s.putBlk x).observable = s.observable := fun x hx => by
    simp only [State.observable, State.putBlk, hx]
  have hb := MemoryBlock.readWord_hideRouters hread
  refine ⟨hobs b hb, .word w, rfl, (s.putBlk b').returning (.word w) |>.returning (.word w), ?_,
    hobs b' ((MemoryBlock.readWord_hideRouters hread').trans hb), rfl⟩
  change orRaise b.readWord _ = _
  rw [hread', orRaise_ok]
  rfl

theorem readsOnce_drvReadWord (h : exec .drvReadWord s = .next t) : ReadsOnce .drvReadWord s t := by
  obtain ⟨⟨w, d⟩, hread, rfl⟩ := orRaise_eq_next h
  obtain ⟨d', hread'⟩ := Driver.readWord_readWord hread
  have hobs : ∀ {x y : Driver} {w : Word}, x.readWord = .ok (w, y) → (s.putDrv x).observable = s.observable →
      (s.putDrv y).observable = s.observable := fun {x y w} hxy hx => by
    rw [← hx]
    simp only [State.observable, State.putDrv, Driver.readWord_hideRouters hxy, Driver.readWord_addr hxy,
      Driver.readWord_addressWidth hxy]
  have hd := hobs hread rfl
  refine ⟨hd, .word w, rfl, (s.putDrv d').returning (.word w) |>.returning (.word w), ?_, hobs hread' hd, rfl⟩
  change orRaise d.readWord _ = _
  rw [hread', orRaise_ok]
  rfl

end

/-- Settles O44: the two routed reads change routers alone, every other read returns a value and no more, and a setter returns
nothing. -/
theorem readsChangeNothingObservable : Obligations.ReadsChangeNothingObservable := by
  intro i s t h
  cases i with
  | blkReadWord => exact ⟨fun _ => readsOnce_blkReadWord h, nofun⟩
  | drvReadWord => exact ⟨fun _ => readsOnce_drvReadWord h, nofun⟩
  | dmxRead j =>
    obtain ⟨w, hw, rfl⟩ := orRaise_eq_next h
    exact ⟨fun _ => readsOnce_of_returning (orRaise_of_ok hw), nofun⟩
  | drvDetermineBlockIndex a =>
    obtain ⟨k, hk, rfl⟩ := orRaise_eq_next h
    exact ⟨fun _ => readsOnce_of_returning (orRaise_of_ok hk), nofun⟩
  | ctlReadResponse c =>
    obtain ⟨q, hq, rfl⟩ := onRecord_eq_next h
    exact ⟨fun _ => readsOnce_of_returning (onRecord_of_record hq), nofun⟩
  | srlRead | dffRead | srffRead | tffRead | muxIsNarrow | muxRead | dmxIsNarrow | cellRead | drvAddressWidth =>
    cases h
    exact ⟨fun _ => readsOnce_of_returning rfl, nofun⟩
  | muxSetInputWord | muxSetSelector | dmxSetSelector | ctlSetClock =>
    obtain ⟨_, -, rfl⟩ := orRaise_eq_next h
    exact ⟨nofun, fun _ => rfl⟩
  | ctlSetChipSelect | ctlSetWriteEnable | ctlSetAddress | ctlSetFeed =>
    obtain ⟨_, -, rfl⟩ := onRecord_eq_next h
    exact ⟨nofun, fun _ => rfl⟩
  | _ =>
    cases h
    exact ⟨nofun, fun _ => rfl⟩

end Sys2Proof.Machine
end

section
/-! SUPPORT. The state after construction (10_state.md R44, R45, 70_reset_and_hazards.md R260): every block of it is a constructed
block, and a constructed block is legal. -/

namespace Sys2Proof.Machine

/-! ## A constructed block -/

namespace MemoryBlock

section
variable (base n : Nat)

theorem construct_line {c : RegisterCell} (h : c ∈ (MemoryBlock.construct base n).lines) : c = RegisterCell.construct :=
  List.eq_of_mem_replicate h

theorem construct_gated : (MemoryBlock.construct base n).Gated := by
  rw [gated_iff]
  intro i c hc
  rw [construct_line base n (List.mem_of_getElem? hc)]
  simp [RegisterCell.construct, construct]

theorem construct_clockTracked : (MemoryBlock.construct base n).ClockTracked := by
  rw [clockTracked_iff]
  intro i c hc _ hwe
  cases hwe

theorem construct_routersFollow : (MemoryBlock.construct base n).RoutersFollow := by
  have hword : (0 : ControlWord) = pack false false false := by decide
  refine ⟨hword, rfl, nofun, nofun, fun i _ hsel => ?_⟩
  obtain ⟨haddr, -⟩ := sel_eq_some_iff.mp hsel
  have hzero : 0 = base + i := haddr
  obtain rfl : 0 = i := by omega
  exact ⟨rfl, rfl, rfl⟩

theorem construct_sized {n : Nat} (hn : 0 < n) : (MemoryBlock.construct base n).Sized := by
  simp [Sized, construct, MemoryBlock.n, Multiplexer.n, Demultiplexer.construct, Multiplexer.construct, hn]

theorem construct_inRange (p : Widths) : (MemoryBlock.construct base n).InRange p := by
  refine ⟨fits_zero _, fits_zero _, fits_zero _, fits_zero _, fits_zero _, fits_zero _, fun c hc => ?_, fun w hw => ?_⟩
  · rw [construct_line base n hc]
    exact ⟨fits_zero _, fits_zero _⟩
  · rw [List.eq_of_mem_replicate hw]
    exact fits_zero _

end

end MemoryBlock

/-! ## The constructed state -/

section
variable {c : Config} {b : MemoryBlock}

/-- R44, R190: the block, and the blocks of both drivers, are constructed with the sizes of the parameters. -/
theorem exists_of_mem_blocks_construct (h : b ∈ (State.construct c).blocks) :
    ∃ base n, (n = c.blkLines ∨ n ∈ c.drvBlocks ∨ n ∈ c.ctlBlocks) ∧ b = MemoryBlock.construct base n := by
  obtain rfl | h := List.mem_cons.mp h
  · exact ⟨c.blkBase, c.blkLines, .inl rfl, rfl⟩
  obtain h | h := List.mem_append.mp h
  · obtain ⟨base, n, hn, hb⟩ := exists_of_mem_constructBlocks h
    exact ⟨base, n, .inr (.inl hn), hb⟩
  · obtain ⟨base, n, hn, hb⟩ := exists_of_mem_constructBlocks h
    exact ⟨base, n, .inr (.inr hn), hb⟩

/-- R44: what every constructed block has, every block of the constructed state has. -/
theorem forall_mem_blocks_construct {P : MemoryBlock → Prop} (hP : ∀ base n, P (MemoryBlock.construct base n)) :
    ∀ b ∈ (State.construct c).blocks, P b := by
  intro b hb
  obtain ⟨base, n, -, rfl⟩ := exists_of_mem_blocks_construct hb
  exact hP base n

/-- R10, R25, R40: with the sizes the spec allows every selector is in range. -/
theorem construct_selectorsInRange (hc : c.WellFormed = true) : (State.construct c).SelectorsInRange := by
  obtain ⟨-, -, hmux, hdmx, hblk, ⟨-, hdrv, -⟩, hcores, -, hctl, -⟩ := checkConfig_eq_ok_iff.mp (Config.wellFormed_iff.mp hc)
  refine ⟨?mux, hdmx, fun b hb => ?blocks, ?focus⟩
  case mux => exact hmux.trans_eq List.length_replicate.symm
  case blocks =>
    obtain ⟨base, n, hn, rfl⟩ := exists_of_mem_blocks_construct hb
    refine MemoryBlock.construct_sized base ?_
    obtain rfl | hn | hn := hn
    · exact hblk
    · exact hdrv n hn
    · exact hctl n hn
  case focus => exact hcores.trans_eq List.length_replicate.symm

/-- R12, R44: zero lies in every type. -/
theorem construct_valuesInRange (c : Config) : (State.construct c).ValuesInRange := by
  refine ⟨fits_zero _, fits_zero _, fits_zero _, fun w hw => ?mux, fits_zero _, fits_zero _, fits_zero _,
    ⟨fits_zero _, fits_zero _⟩, forall_mem_blocks_construct fun _ _ => MemoryBlock.construct_inRange _ _ _, fits_zero _,
    fits_zero _, fun q hq => ?queue⟩
  case mux =>
    rw [List.eq_of_mem_replicate hw]
    exact fits_zero _
  case queue =>
    rw [List.eq_of_mem_replicate hq]
    exact ⟨fits_zero _, fits_zero _, fits_zero _⟩

theorem construct_busClocked (c : Config) : (State.construct c).BusClocked := by
  intro b hb
  obtain ⟨_, _, -, rfl⟩ := exists_of_mem_constructBlocks hb
  rfl

end

/-- Settles O55: block by block, then the drivers' layout and the ranges. -/
theorem constructionIsLegal : Obligations.ConstructionIsLegal := fun c hc =>
  ⟨forall_mem_blocks_construct MemoryBlock.construct_gated, forall_mem_blocks_construct MemoryBlock.construct_clockTracked,
    forall_mem_blocks_construct MemoryBlock.construct_routersFollow,
    ⟨Driver.construct_laid c.drvBlocks, Driver.construct_laid c.ctlBlocks⟩, construct_busClocked c,
    construct_selectorsInRange hc, construct_valuesInRange c⟩

/-- Settles O56: the parameters of log entry 2 are those of a construction. -/
theorem resetIsLegal : Obligations.ResetIsLegal :=
  constructionIsLegal Config.reference (by decide)

/-- Settles O57: by the constructors, and block by block. -/
theorem constructionLeavesClocksLowAndFocusZero : Obligations.ConstructionLeavesClocksLowAndFocusZero := by
  intro c
  refine ⟨rfl, rfl, rfl, rfl, forall_mem_blocks_construct fun base n => ⟨rfl, fun line hline => ?_⟩, rfl, rfl⟩
  rw [MemoryBlock.construct_line base n hline]
  rfl

/-- R190: a constructed driver's blocks begin where the sizes before them end. -/
theorem Driver.construct_base {sizes : List Nat} {k : Nat} {b : MemoryBlock} (hb : (Driver.construct sizes).blocks[k]? = some b) :
    b.base = totalLines (sizes.take k) := by
  have hbase := base_eq_of_contiguousFrom (Driver.construct_wf sizes) hb
  rwa [Nat.zero_add, ← Driver.sizes, Driver.construct_sizes] at hbase

/-- Settles O58: by the constructors, block by block, and by the layout of a constructed driver. -/
theorem constructionZeroesTheState : Obligations.ConstructionZeroesTheState := by
  intro c
  refine ⟨rfl, rfl, rfl, rfl, rfl, rfl, rfl, forall_mem_blocks_construct fun base n => ?block, ⟨rfl, List.length_replicate⟩,
    ⟨Driver.construct_sizes _, rfl, fun _ _ => Driver.construct_base⟩,
    ⟨rfl, rfl, rfl, Driver.construct_sizes _, rfl, fun _ _ => Driver.construct_base⟩, rfl, rfl⟩
  case block =>
    have hlength : (MemoryBlock.construct base n).lines.length = n := List.length_replicate
    rw [hlength]
    exact ⟨rfl, rfl, rfl, rfl, rfl, fun line hline => MemoryBlock.construct_line base n hline, rfl, rfl, rfl⟩

end Sys2Proof.Machine
end
